-- ==== Sys2Proof/Word.lean ====
section
/-! DEFINITION. Bytes and byte lists (00_scope.md rule R7): every value of the block is an unsigned bit vector
or a finite list of bytes indexed from 0. -/

namespace Sys2Proof

/-- One byte, `u8`. -/
abbrev Byte := BitVec 8

/-- `Bytes` of rule R7: a finite list of `u8`. -/
abbrev Bytes := List Byte

/-- The order in which a bit-serial computer takes the bits of one byte (the parameter `BIT_ORDER` of rule R5). -/
inductive BitOrder where
  /-- Bit 7 first, bit 0 last: the value rule R5 takes (R35). -/
  | msbFirst
  /-- Bit 0 first, bit 7 last: the only other order a parameter of this name can mean (entry 19). -/
  | lsbFirst
  deriving DecidableEq, Repr

end Sys2Proof
end

