-- ==== Sys2Proof/Syntax.lean ====
section
/-! DEFINITION. The operations of the block (30_encoding.md rules R59 and R61), the response tags (R53) and the call
on the operation port that selects an operation. -/

namespace Sys2Proof

/-- The nine response tags of rule R53. -/
inductive RespTag where
  | r0 | r1 | r1b | r2Cid | r2Csd | r3 | r6 | r7 | illegal
  deriving DecidableEq, Repr

/-- The operations, one constructor per row of the table of rule R59, with the operands of rule R61. -/
inductive Instr where
  /-- CRC7 (R68) -/
  | crc7 (bs : Bytes)
  /-- CRC16 (R69) -/
  | crc16 (bs : Bytes)
  /-- REG_SEAL (R72) -/
  | regSeal (img : Bytes)
  /-- DATA_BLOCK_ENCODE (R74) -/
  | dataBlockEncode (blk : Bytes)
  /-- CMD_ENCODE (R82) -/
  | cmdEncode (cmd : BitVec 6) (arg : BitVec 32)
  /-- CMD_DECODE (R84) -/
  | cmdDecode (frame : Bytes)
  /-- CMD_CHECK (R85) -/
  | cmdCheck (cmd : BitVec 6) (arg : BitVec 32) (crc : BitVec 7)
  /-- FR_COMMAND (R87) -/
  | frCommand (cmd : BitVec 6) (arg : BitVec 32) (crc : BitVec 7)
  /-- FR_FRAME (R93) -/
  | frFrame (frame : Bytes)
  /-- RESP_R0 (R101) -/
  | respR0
  /-- RESP_R1 (R102) -/
  | respR1
  /-- RESP_R1B (R103) -/
  | respR1b
  /-- RESP_R2_CID (R104) -/
  | respR2Cid
  /-- RESP_R2_CSD (R105) -/
  | respR2Csd
  /-- RESP_R3 (R106) -/
  | respR3
  /-- RESP_R6 (R107) -/
  | respR6
  /-- RESP_R7 (R108) -/
  | respR7 (pattern : BitVec 32)
  /-- RESP_ILLEGAL (R109) -/
  | respIllegal
  deriving DecidableEq, Repr

/-- One call on the operation port (R59): the 5-bit code and the operand lines of rule R61, each by its own name and
width (entry 1). An operation takes the lines of its own operands (`img`, `blk`, `bs` and `frame` are all the byte
list `bytes`) and ignores the others. -/
structure PortCall where
  op : BitVec 5
  bytes : Bytes
  cmd : BitVec 6
  arg : BitVec 32
  crc : BitVec 7
  pattern : BitVec 32
  deriving DecidableEq, Repr

end Sys2Proof
end

