-- ==== Sys2Proof/Decode.lean ====
section
/-! DEFINITION. The decoder and the encoder of the operation port (30_encoding.md rules R59 and R60), and the codes of
the response tags (R53). -/

namespace Sys2Proof

/-- Why a call spells no operation (60_exceptions.md rule R124). -/
inductive DecodeError where
  /-- `op` in 0x09..0x0F (R60). -/
  | reservedOp
  /-- `op` in 0x19..0x1F (42_response.md R110). -/
  | reservedTag
  deriving DecidableEq, Repr

/-- The tag a 4-bit code stands for (R53); the codes 0x9 to 0xF are reserved (R110). -/
def RespTag.ofCode (code : BitVec 4) : Option RespTag :=
  match code.toNat with
  | 0x0 => some .r0
  | 0x1 => some .r1
  | 0x2 => some .r1b
  | 0x3 => some .r2Cid
  | 0x4 => some .r2Csd
  | 0x5 => some .r3
  | 0x6 => some .r6
  | 0x7 => some .r7
  | 0x8 => some .illegal
  | _ => none

/-- The 4-bit code of a tag (R53). -/
def RespTag.code : RespTag → BitVec 4
  | .r0 => 0x0#4
  | .r1 => 0x1#4
  | .r1b => 0x2#4
  | .r2Cid => 0x3#4
  | .r2Csd => 0x4#4
  | .r3 => 0x5#4
  | .r6 => 0x6#4
  | .r7 => 0x7#4
  | .illegal => 0x8#4

/-- The operation a call selects, by the table of rule R59. Total: a reserved code is rejected by its name. -/
def decode (c : PortCall) : Except DecodeError Instr :=
  match c.op.toNat with
  | 0x00 => .ok (.crc7 c.bytes)
  | 0x01 => .ok (.crc16 c.bytes)
  | 0x02 => .ok (.regSeal c.bytes)
  | 0x03 => .ok (.dataBlockEncode c.bytes)
  | 0x04 => .ok (.cmdEncode c.cmd c.arg)
  | 0x05 => .ok (.cmdDecode c.bytes)
  | 0x06 => .ok (.cmdCheck c.cmd c.arg c.crc)
  | 0x07 => .ok (.frCommand c.cmd c.arg c.crc)
  | 0x08 => .ok (.frFrame c.bytes)
  | 0x10 => .ok .respR0
  | 0x11 => .ok .respR1
  | 0x12 => .ok .respR1b
  | 0x13 => .ok .respR2Cid
  | 0x14 => .ok .respR2Csd
  | 0x15 => .ok .respR3
  | 0x16 => .ok .respR6
  | 0x17 => .ok (.respR7 c.pattern)
  | 0x18 => .ok .respIllegal
  | n => if n < 0x10 then .error .reservedOp else .error .reservedTag

/-- A call with every operand line at zero and no operand bytes. -/
def PortCall.bare (op : BitVec 5) : PortCall :=
  { op := op, bytes := [], cmd := 0#6, arg := 0#32, crc := 0#7, pattern := 0#32 }

/-- The call that selects an operation, by the table of rule R59; the operand lines it does not use are zero. -/
def encode : Instr → PortCall
  | .crc7 bs => { PortCall.bare 0x00#5 with bytes := bs }
  | .crc16 bs => { PortCall.bare 0x01#5 with bytes := bs }
  | .regSeal img => { PortCall.bare 0x02#5 with bytes := img }
  | .dataBlockEncode blk => { PortCall.bare 0x03#5 with bytes := blk }
  | .cmdEncode cmd arg => { PortCall.bare 0x04#5 with cmd := cmd, arg := arg }
  | .cmdDecode frame => { PortCall.bare 0x05#5 with bytes := frame }
  | .cmdCheck cmd arg crc => { PortCall.bare 0x06#5 with cmd := cmd, arg := arg, crc := crc }
  | .frCommand cmd arg crc => { PortCall.bare 0x07#5 with cmd := cmd, arg := arg, crc := crc }
  | .frFrame frame => { PortCall.bare 0x08#5 with bytes := frame }
  | .respR0 => PortCall.bare 0x10#5
  | .respR1 => PortCall.bare 0x11#5
  | .respR1b => PortCall.bare 0x12#5
  | .respR2Cid => PortCall.bare 0x13#5
  | .respR2Csd => PortCall.bare 0x14#5
  | .respR3 => PortCall.bare 0x15#5
  | .respR6 => PortCall.bare 0x16#5
  | .respR7 pattern => { PortCall.bare 0x17#5 with pattern := pattern }
  | .respIllegal => PortCall.bare 0x18#5

/-- The call a word of the opcode table stands for (entry 1): its code is `w[4:0]`, its operand lines are zero and its
byte list is six bytes of zeros, a length every byte-list operation takes (R32). -/
def PortCall.ofTableWord (nbits w : Nat) : PortCall :=
  { PortCall.bare (BitVec.ofNat 5 (w % 2 ^ nbits)) with bytes := List.replicate 6 0x00#8 }

/-- The operation the decoder reads from a word of the opcode table. -/
def decodeTableWord (nbits w : Nat) : Option Instr :=
  match decode (PortCall.ofTableWord nbits w) with
  | .ok i => some i
  | .error _ => none

end Sys2Proof
end

