-- ==== Sys2Proof/Machine/Card.lean ====
section
/-! DEFINITION. The card state the block reads and writes (10_state.md rule R16), and what its external agents
write: the data of the card's reset (R142) and a dispatcher answer (41_command_frame.md R86). Plain data. -/

namespace Sys2Proof.Machine

/-- The card's protocol state `state`, the nine names of rule R18 in the source's order. DESIGN CHOICE, unsafe (entry 22):
no tenth value. R129 lists the mode Inactive, and no rule says which state gives it. -/
inductive CardState where
  | idle | ready | identification | standby | transfer | sendingData | receivingData | programming | disconnect
  deriving DecidableEq, Repr

/-- `mode` (R129): "one of {Inactive, CardIdentification, DataTransfer} — a pure function of `state`". -/
inductive CardMode where
  | inactive | cardIdentification | dataTransfer
  deriving DecidableEq, Repr, Inhabited

/-- The fields of the card that belong to the dispatcher and the Power-Up Sequencer (R16, R27). The block itself
neither reads nor writes them. -/
structure DispFields where
  /-- `state` (R16, R18). -/
  state : CardState
  /-- `current_cmd` (R16, R86). -/
  currentCmd : BitVec 6
  /-- `expecting_acmd` (R27 (a)). -/
  expectingAcmd : Bool
  /-- A Power-Up Sequencer event is pending (R27 (b), R130). -/
  powerUpPending : Bool
  deriving DecidableEq, Repr

/-- The card state of rule R16. -/
structure Card where
  cardStatus : BitVec 32
  ocr : BitVec 32
  rca : BitVec 16
  cid : Vector Byte 16
  csd : Vector Byte 16
  scr : Vector Byte 8
  enabled : Bool
  inserted : Bool
  hasMedium : Bool
  spi : Bool
  disp : DispFields
  deriving DecidableEq, Repr

/-- What the Register Model supplies when the card is reset (R142): the capacity in bytes, from which the
high-capacity bit follows, the three register images before they are sealed (their contents are parameters, U3), and
the values its agents' own fields take (the spec gives none; entry 12). -/
structure CardResetData where
  capacity : Nat
  cid : Vector Byte 16
  csd : Vector Byte 16
  scr : Vector Byte 8
  disp : DispFields
  deriving DecidableEq, Repr

/-- One answer of the dispatcher to `Dispatch(cmd, arg)` (R86): a tag, given by its 4-bit code of rule R53 so that
a code outside the nine tags can be answered (`BadDispatcherTag`, R124); the pattern that goes with the tag R7; and
the writes to the card state it makes before it returns. `none` and `false` mean "not written". Which fields a
dispatcher may write is entry 5. -/
structure DispatcherAnswer where
  tag : BitVec 4
  pattern : BitVec 32
  /-- GO_IDLE_STATE resets the card (R142). -/
  reset : Option CardResetData
  cardStatus : Option (BitVec 32)
  /-- SEND_RELATIVE_ADDR publishes a new address (R21). -/
  rca : Option (BitVec 16)
  /-- `ocr[30:0]`: R86 lets the dispatcher's steps make any write to the card state. -/
  ocrLow : Option (BitVec 31)
  /-- "an enquiry argument … cancels it and asserts power-up immediately" (R130). -/
  assertPowerUp : Bool
  disp : Option DispFields
  deriving DecidableEq, Repr, Inhabited

end Sys2Proof.Machine
end

