-- ==== Sys2Proof/Config.lean ====
section
/-! DEFINITION. The block's configuration parameters (00_scope.md rule R5, 10_state.md rule R28) and the free values
the spec leaves to external agents. The values taken stand in Machine/Parameters.lean. -/

namespace Sys2Proof

/-- The named parameters of rule R5, and the two OPEN reset parameters of rule R28 (D21). Fixed for the life of a
block instance (R6). `CMD_INDEX_BITS`, `ARG_BITS`, `HDR_BYTES`, `CID_BYTES`, `CSD_BYTES` and `SCR_BYTES` are the
widths of the types. -/
structure Config where
  /-- `CRC7_POLY` -/
  crc7Poly : BitVec 7
  /-- `CRC7_INIT` -/
  crc7Init : BitVec 7
  /-- `CRC16_POLY` -/
  crc16Poly : BitVec 16
  /-- `CRC16_INIT` -/
  crc16Init : BitVec 16
  /-- `BIT_ORDER` -/
  bitOrder : BitOrder
  /-- `HDR_PREFIX` -/
  hdrPrefix : BitVec 2
  /-- `DATA_BLOCK_MAX` -/
  dataBlockMax : Nat
  /-- `CHECK_CMD_CRC` -/
  checkCmdCrc : Bool
  /-- `SCR_SEALED` -/
  scrSealed : Bool
  /-- `ST_COM_CRC_ERROR` -/
  stComCrcError : BitVec 32
  /-- `MASK_CLEAR_ON_READ` -/
  maskClearOnRead : BitVec 32
  /-- `MASK_CLEAR_ON_VALID` -/
  maskClearOnValid : BitVec 32
  /-- `R6_SRC_MASK` -/
  r6SrcMask : BitVec 32
  /-- `CARD_STATUS_RESET` (R28, OPEN) -/
  cardStatusReset : BitVec 32
  /-- `OCR_RESET_LOW`, bits 29:0 of `ocr` after reset (R28, OPEN) -/
  ocrResetLow : BitVec 30
  deriving DecidableEq, Repr

/-- FREE VALUE (entry 4): the answer of the external dispatcher where no answer is scripted. It may depend on how
many answers were drawn before, on the request and on the whole card state. U4: the spec assumes nothing of it. -/
opaque Config.freeAnswer : Nat → BitVec 6 → BitVec 32 → Machine.Card → Machine.DispatcherAnswer

/-- FREE VALUE (entry 14): the function from `state` to `mode` (R129), which the spec does not give. -/
opaque Config.modeOf : Machine.CardState → Machine.CardMode

end Sys2Proof
end

