-- ==== Sys2Proof/Machine/Flags.lean ====
section
/-! DEFINITION. The card status word (10_state.md rules R17 to R19): its bit map and the computations over it that the
operations make. -/

namespace Sys2Proof.Machine

/-- The category of a status bit (R17): A is neither, B is "clear-on-valid-command", C is "clear-on-read". -/
inductive StatusCategory where
  | A | B | C
  deriving DecidableEq, Repr

/-- One row of the bit map of rule R17: the field `card_status[hi:lo]`. -/
structure StatusField where
  hi : Nat
  lo : Nat
  name : String
  category : StatusCategory
  deriving DecidableEq, Repr

/-- The bit map of `card_status` (R17). The bits it does not list are reserved. -/
def statusFields : List StatusField :=
  [ ⟨31, 31, "OUT_OF_RANGE", .C⟩,
    ⟨30, 30, "ADDRESS_ERROR", .C⟩,
    ⟨29, 29, "BLOCK_LEN_ERROR", .C⟩,
    ⟨28, 28, "ERASE_SEQ_ERROR", .C⟩,
    ⟨27, 27, "ERASE_PARAM", .C⟩,
    ⟨26, 26, "WP_VIOLATION", .C⟩,
    ⟨25, 25, "CARD_IS_LOCKED", .A⟩,
    ⟨24, 24, "LOCK_UNLOCK_FAILED", .C⟩,
    ⟨23, 23, "COM_CRC_ERROR", .B⟩,
    ⟨22, 22, "ILLEGAL_COMMAND", .B⟩,
    ⟨21, 21, "CARD_ECC_FAILED", .C⟩,
    ⟨20, 20, "CC_ERROR", .C⟩,
    ⟨19, 19, "ERROR", .C⟩ ] ++
  [ ⟨16, 16, "CID_CSD_OVERWRITE", .C⟩,
    ⟨15, 15, "WP_ERASE_SKIP", .C⟩,
    ⟨14, 14, "CARD_ECC_DISABLED", .A⟩,
    ⟨13, 13, "ERASE_RESET", .C⟩,
    ⟨12, 9, "CURRENT_STATE", .B⟩,
    ⟨8, 8, "READY_FOR_DATA", .A⟩,
    ⟨5, 5, "APP_CMD", .C⟩,
    ⟨3, 3, "AKE_SEQ_ERROR", .C⟩ ]

/-- The bits of one field of the map, as a mask. -/
def StatusField.mask (f : StatusField) : BitVec 32 := BitVec.ofNat 32 ((2 ^ (f.hi - f.lo + 1) - 1) * 2 ^ f.lo)

/-- The mask of every bit of a category (R17). -/
def categoryMask (k : StatusCategory) : BitVec 32 :=
  (statusFields.filter (fun f => f.category = k)).foldl (fun m f => m ||| f.mask) 0#32

/-- The CURRENT_STATE code of a state (R18). Written into the word by the dispatcher, not by the block. -/
def CardState.code : CardState → BitVec 4
  | .idle => 0#4
  | .ready => 1#4
  | .identification => 2#4
  | .standby => 3#4
  | .transfer => 4#4
  | .sendingData => 5#4
  | .receivingData => 6#4
  | .programming => 7#4
  | .disconnect => 8#4

/-- The CURRENT_STATE field, bits 12:9 of the word (R17). -/
def currentState (status : BitVec 32) : BitVec 4 := status.extractLsb' 9 4

/-- The word after a framing error (R19 (a)). -/
def setCrcError (cfg : Config) (status : BitVec 32) : BitVec 32 := status ||| cfg.stComCrcError

/-- The word after an R1 or R1B encoding has read it (R19 (b)). -/
def clearOnRead (cfg : Config) (status : BitVec 32) : BitVec 32 := status &&& ~~~cfg.maskClearOnRead

/-- The word after an R6 encoding has read it (R19 (c)). -/
def clearOnR6 (cfg : Config) (status : BitVec 32) : BitVec 32 :=
  status &&& ~~~(cfg.maskClearOnRead &&& cfg.r6SrcMask)

/-- The word after step 8 of a transaction whose tag is not ILLEGAL (R19 (d)). -/
def clearOnValid (cfg : Config) (status : BitVec 32) : BitVec 32 := status &&& ~~~cfg.maskClearOnValid

/-- `status16` (30_encoding.md R55): bits 23:22, 19 and 12:0 of the word. -/
def status16 (status : BitVec 32) : BitVec 16 :=
  status.extractLsb' 22 2 ++ status.extractLsb' 19 1 ++ status.extractLsb' 0 13

end Sys2Proof.Machine
end

