-- ==== Sys2Proof/Machine/Parameters.lean ====
section
/-! DEFINITION. The values of the configuration parameters (00_scope.md rule R5) at State.reset. -/

namespace Sys2Proof.Machine

/-- The values rule R5 takes. UNVERIFIED where R5 marks them general knowledge (entry 13). The last two are OPEN in the
spec (R28, D21): DESIGN CHOICE zero, unsafe (entry 9). -/
def specConfig : Config where
  crc7Poly := 0x09#7
  crc7Init := 0x00#7
  crc16Poly := 0x1021#16
  crc16Init := 0x0000#16
  bitOrder := .msbFirst
  hdrPrefix := 0b01#2
  dataBlockMax := 512
  checkCmdCrc := true
  scrSealed := true
  stComCrcError := 0x00800000#32
  maskClearOnRead := 0xFD39A028#32
  maskClearOnValid := 0x00C01E00#32
  r6SrcMask := 0x00C81FFF#32
  cardStatusReset := 0x00000000#32
  ocrResetLow := 0x00000000#30

end Sys2Proof.Machine
end

