-- ==== Sys2Proof/Machine/Operands.lean ====
section
/-! DEFINITION. The forms of the operands and results (20_memory.md, 30_encoding.md): bit order, byte order, the
command header, and the fields of a command frame. -/

namespace Sys2Proof.Machine

/-- The bits of one byte in the order the bit-serial computers take them (20_memory.md R35). -/
def byteBits (o : BitOrder) (b : Byte) : List Bool :=
  let up := [b.getLsbD 0, b.getLsbD 1, b.getLsbD 2, b.getLsbD 3, b.getLsbD 4, b.getLsbD 5, b.getLsbD 6, b.getLsbD 7]
  match o with
  | .msbFirst => up.reverse
  | .lsbFirst => up

/-- `be16` (R7). -/
def be16 (v : BitVec 16) : Bytes := [v.extractLsb' 8 8, v.extractLsb' 0 8]

/-- `be32` (R7). -/
def be32 (v : BitVec 32) : Bytes := [v.extractLsb' 24 8, v.extractLsb' 16 8, v.extractLsb' 8 8, v.extractLsb' 0 8]

/-- The 5-byte header of a request (41_command_frame.md R81): the prefix and the command index, then the argument, most
significant byte first (R33). -/
def header (cfg : Config) (cmd : BitVec 6) (arg : BitVec 32) : Bytes := (cfg.hdrPrefix ++ cmd) :: be32 arg

/-- The fields of a 6-byte command frame (30_encoding.md R46, R50). -/
structure FrameFields where
  cmd : BitVec 6
  arg : BitVec 32
  crc : BitVec 7
  /-- The start bit is 0, the transmission bit 1 and the end bit 1 (R51, R84). -/
  frameOk : Bool
  deriving DecidableEq, Repr

/-- The fields of the six bytes of a frame (R50, R84). -/
def frameFields (b0 b1 b2 b3 b4 b5 : Byte) : FrameFields where
  cmd := b0.extractLsb' 0 6
  arg := b1 ++ b2 ++ b3 ++ b4
  crc := b5.extractLsb' 1 7
  frameOk := !b0.getLsbD 7 && b0.getLsbD 6 && b5.getLsbD 0

/-- `CMD_DECODE(frame)` (R84): none for a frame of other than six bytes (R39). -/
def splitFrame : Bytes → Option FrameFields
  | [b0, b1, b2, b3, b4, b5] => some (frameFields b0 b1 b2 b3 b4 b5)
  | _ => none

end Sys2Proof.Machine
end

