-- ==== Sys2Proof/Machine/Crc.lean ====
section
/-! DEFINITION. The CRC Engine's pure functions (40_crc.md): the bit-serial step functions, CRC-7 and CRC-16 of a byte
list, the trailer byte, the seal of a register image, the data block with its CRC-16 and the command frame with its CRC-7. -/

namespace Sys2Proof.Machine

/-- One step of a Galois-form feedback register of any width: the common form of rules R66 and R67. -/
def lfsrStep {w : Nat} (poly r : BitVec w) (d : Bool) : BitVec w :=
  let fb := r.msb ^^ d
  let sh := r <<< 1
  if fb then sh ^^^ poly else sh

/-- `crc7_step` (R66). -/
def crc7Step (cfg : Config) (r : BitVec 7) (d : Bool) : BitVec 7 := lfsrStep cfg.crc7Poly r d

/-- `crc16_step` (R67). -/
def crc16Step (cfg : Config) (r : BitVec 16) (d : Bool) : BitVec 16 := lfsrStep cfg.crc16Poly r d

/-- The register `r7` after one more input byte (R68's inner loop). -/
def crc7Byte (cfg : Config) (r : BitVec 7) (b : Byte) : BitVec 7 := (byteBits cfg.bitOrder b).foldl (crc7Step cfg) r

/-- The register `r16` after one more input byte (R69's inner loop). -/
def crc16Byte (cfg : Config) (r : BitVec 16) (b : Byte) : BitVec 16 :=
  (byteBits cfg.bitOrder b).foldl (crc16Step cfg) r

/-- `CRC7(bs)` (R68): `r7` starts at `CRC7_INIT` and takes the bytes in list order. -/
def crc7 (cfg : Config) (bs : Bytes) : BitVec 7 := bs.foldl (crc7Byte cfg) cfg.crc7Init

/-- `CRC16(bs)` (R69): `r16` starts at `CRC16_INIT` and takes the bytes in list order. -/
def crc16 (cfg : Config) (bs : Bytes) : BitVec 16 := bs.foldl (crc16Byte cfg) cfg.crc16Init

/-- `trailer(c)` (R71): the CRC-7 in bits 7:1 and a 1 in bit 0. -/
def trailer (c : BitVec 7) : Byte := c ++ 1#1

/-- `REG_SEAL(img)` (R72) of a non-empty image: the last byte becomes the trailer of the bytes before it. -/
def regSeal (cfg : Config) (img : Bytes) : Bytes :=
  img.set (img.length - 1) (trailer (crc7 cfg (img.take (img.length - 1))))

/-- The seal of a register of `n + 1` bytes (R73): REG_SEAL on its image. -/
def sealRegister {n : Nat} (cfg : Config) (img : Vector Byte (n + 1)) : Vector Byte (n + 1) :=
  img.set n (trailer (crc7 cfg (img.toList.take n)))

/-- A register whose last byte is the trailer of the bytes before it (R22). -/
def isSealed {n : Nat} (cfg : Config) (reg : Vector Byte (n + 1)) : Bool :=
  reg[n] == trailer (crc7 cfg (reg.toList.take n))

/-- `DATA_BLOCK_ENCODE(blk)` (R74): the block, then its CRC-16, most significant byte first (R36). -/
def dataBlock (cfg : Config) (blk : Bytes) : Bytes := blk ++ be16 (crc16 cfg blk)

/-- `CMD_ENCODE(cmd, arg)` (R82): the header, then the trailer byte of its CRC-7 (30_encoding.md R46, R48). -/
def commandFrame (cfg : Config) (cmd : BitVec 6) (arg : BitVec 32) : Bytes :=
  header cfg cmd arg ++ [trailer (crc7 cfg (header cfg cmd arg))]

/-- `CMD_CHECK(cmd, arg, crc)` (R85): the CRC field equals the CRC-7 of the header. -/
def crcMatches (cfg : Config) (cmd : BitVec 6) (arg : BitVec 32) (crc : BitVec 7) : Bool :=
  crc7 cfg (header cfg cmd arg) == crc

end Sys2Proof.Machine
end

