-- ==== Sys2Proof/Machine/Registers.lean ====
section
/-! DEFINITION. The writes to the card state that its agents make (10_state.md rules R16, R21, R23; 70_reset_and_hazards.md
rules R142, R145), each in one place. -/

namespace Sys2Proof.Machine

/-- `card_status <- v`. -/
def Card.setStatus (c : Card) (v : BitVec 32) : Card := { c with cardStatus := v }

/-- `rca <- v` (R21). -/
def Card.setRca (c : Card) (v : BitVec 16) : Card := { c with rca := v }

/-- The dispatcher's and the sequencer's own fields take new values. -/
def Card.setDisp (c : Card) (d : DispFields) : Card := { c with disp := d }

/-- The power-up-complete bit of `ocr` (R20). -/
def Card.powerUpDone (c : Card) : Bool := c.ocr.getLsbD 31

/-- `ocr[31] <- 1` (R20, R130), the other bits unchanged. -/
def Card.assertPowerUp (c : Card) : Card := { c with ocr := 1#1 ++ c.ocr.extractLsb' 0 31 }

/-- `ocr[30:0] <- v` (R86), the power-up bit unchanged. -/
def Card.setOcrLow (c : Card) (v : BitVec 31) : Card := { c with ocr := c.ocr.extractLsb' 31 1 ++ v }

/-- The gate of step 1 is open (41_command_frame.md R87, R88). -/
def Card.gateOpen (c : Card) : Bool := c.enabled && c.inserted && c.hasMedium

/-- `ocr` after the card's reset (R28): bit 31 clear, bit 30 = 1 iff the capacity is above 1 GiB, the rest
`OCR_RESET_LOW`. -/
def ocrAfterReset (cfg : Config) (capacity : Nat) : BitVec 32 :=
  0#1 ++ (if 0x40000000 < capacity then 1#1 else 0#1) ++ cfg.ocrResetLow

/-- The card's reset (R142, R28): the derived registers are recomputed and sealed (R73), `rca` is 0, `card_status` is
`CARD_STATUS_RESET`; the gate flags and `spi` are not changed. -/
def Card.reset (cfg : Config) (d : CardResetData) (c : Card) : Card :=
  { c with
    cardStatus := cfg.cardStatusReset
    ocr := ocrAfterReset cfg d.capacity
    rca := 0#16
    cid := sealRegister cfg d.cid
    csd := sealRegister cfg d.csd
    scr := if cfg.scrSealed then sealRegister cfg d.scr else d.scr
    disp := d.disp }

/-- The writes of one dispatcher answer (R86), made before `Dispatch` returns: the card's reset first, if the command
is one that resets the card, then the single fields (DESIGN CHOICE, safe: entry 6). Which fields it may write is DEDUCED,
unsafe (entry 5). -/
def Card.dispatcherWrites (cfg : Config) (a : DispatcherAnswer) (c : Card) : Card :=
  let c1 := match a.reset with | some d => c.reset cfg d | none => c
  let c2 := match a.cardStatus with | some v => c1.setStatus v | none => c1
  let c3 := match a.rca with | some v => c2.setRca v | none => c2
  let c4 := match a.ocrLow with | some v => c3.setOcrLow v | none => c3
  let c5 := if a.assertPowerUp then c4.assertPowerUp else c4
  match a.disp with | some d => c5.setDisp d | none => c5

end Sys2Proof.Machine
end

