-- ==== Sys2Proof/Machine/State.lean ====
section
/-! DEFINITION. The machine's state (10_state.md), the reasons a step can stop, and the state right after reset. -/

namespace Sys2Proof.Machine

/-- The outcome of a command transaction (30_encoding.md R62): GATED, or the tag the transaction ended with
(ILLEGAL, R0, R1, R1B, R2_CID, R2_CSD, R3, R6, R7). -/
inductive TxOutcome where
  | gated
  | tag (t : RespTag)
  deriving DecidableEq, Repr

/-- What an operation returns to the host (R61). -/
inductive PortResult where
  /-- CRC7 -/
  | crc7 (c : BitVec 7)
  /-- CRC16 -/
  | crc16 (c : BitVec 16)
  /-- REG_SEAL, DATA_BLOCK_ENCODE, CMD_ENCODE and every RESP operation -/
  | bytes (out : Bytes)
  /-- CMD_DECODE -/
  | fields (cmd : BitVec 6) (arg : BitVec 32) (crc : BitVec 7) (frameOk : Bool)
  /-- CMD_CHECK -/
  | check (ok : Bool)
  /-- FR_COMMAND and FR_FRAME -/
  | transaction (outcome : TxOutcome) (out : Bytes)
  deriving DecidableEq, Repr

/-- What the environment starts while a transaction is in flight (60_exceptions.md R124, `HostOverlap`): a call of the
host or the sequencer's firing. DEDUCED, safe (entry 8): "a call" takes in the byte calls that R38 has the host serialize
beside the calls of this block's operations; they go to the Data Transfer Engine. -/
inductive Intrusion where
  | hostCall (c : PortCall)
  | readByte
  | writeByte (b : Byte)
  | powerUpFires
  deriving DecidableEq, Repr

/-- One input of the machine (00_scope.md R11): a call of the host, or a step of another agent of the card. -/
inductive Event where
  /-- The host calls an operation (R12). -/
  | call (c : PortCall)
  /-- The host calls an operation, and something starts while that transaction is in flight (R144, R145). -/
  | overlappedCall (c : PortCall) (x : Intrusion)
  /-- The Power-Up Sequencer fires between two transactions (R130, R145). -/
  | powerUpFires
  /-- The card is reset: construction, or media change (R142; entry 18). -/
  | cardReset (d : CardResetData)
  /-- The host toggles `enabled` (R23). -/
  | setEnabled (b : Bool)
  /-- The host toggles `inserted` (R23). -/
  | setInserted (b : Bool)
  /-- The host toggles `has_medium` (R23). -/
  | setHasMedium (b : Bool)
  /-- The Data Transfer Engine writes `card_status` or `state` between transactions (R11 (d)); `none` is "not written".
  DEDUCED, unsafe: it writes nothing else (entry 17). -/
  | dataEngine (cardStatus : Option (BitVec 32)) (state : Option CardState)
  deriving DecidableEq, Repr

/-- Why the machine stops with a fault. -/
inductive Fault where
  /-- The Power-Up Sequencer fires with `ocr[31]` already 1 (R145, U9): raised by the event `powerUpFires`. Safe: the
  spec asks a model to fault rather than continue. -/
  | powerUpTwice
  deriving DecidableEq, Repr

/-- Why the model has no meaning for what was asked (R124); the mark R124 keeps is this outcome (entry 7). All are safe: a
refused operation writes nothing. -/
inductive Refusal where
  /-- An operation that has no meaning yet: raised by exec's arms only. Safe. -/
  | notModelled (mnemonic : String)
  /-- `op` in 0x09..0x0F (R60): raised by a port call. Safe. -/
  | reservedOp
  /-- `op` in 0x19..0x1F (R110): raised by a port call. Safe. -/
  | reservedTag
  /-- An operand length outside rule R32: raised by REG_SEAL, DATA_BLOCK_ENCODE, CMD_DECODE, FR_FRAME. Safe. -/
  | badLength
  /-- The dispatcher answers a tag outside the nine (R86, R110): raised by FR_COMMAND, FR_FRAME. Safe. -/
  | badDispatcherTag
  /-- A call, a byte call or a power-up firing inside a transaction (R144, R145; entry 8): raised by the event `overlappedCall`. Safe. -/
  | hostOverlap
  deriving DecidableEq, Repr

/-- The machine: the block's configuration, the card state it reads and writes, its transient registers, and the
model's own record of the interface (what comes in and what went out). -/
structure State where
  /-- The parameters of rule R5, fixed for the life of the instance (R6). -/
  config : Config
  /-- The card state of rule R16. -/
  card : Card
  /-- The shift register of a CRC-7 computation (R14): no value between computations (R28; entry 15). -/
  r7 : Option (BitVec 7)
  /-- The shift register of a CRC-16 computation (R14): no value between computations (R28; entry 15). -/
  r16 : Option (BitVec 16)
  /-- MODEL's own (entry 2): the inputs to come, oldest first. -/
  inbox : List Event
  /-- MODEL's own (entry 4): the dispatcher's answers to come, oldest first. -/
  answers : List DispatcherAnswer
  /-- MODEL's own (entry 4): how many free answers have been drawn. -/
  draws : Nat
  /-- MODEL's own (entry 3): what the last operation returned to the host. -/
  result : Option PortResult
  deriving DecidableEq, Repr

/-- The data of the card's reset at State.reset. DESIGN CHOICE, unsafe (entries 10, 12): the spec gives no image, no
capacity and no reset value of the dispatcher's fields. -/
def resetData : CardResetData where
  capacity := 0
  cid := Vector.replicate 16 0x00#8
  csd := Vector.replicate 16 0x00#8
  scr := Vector.replicate 8 0x00#8
  disp := { state := .idle, currentCmd := 0#6, expectingAcmd := false, powerUpPending := false }

/-- The card as it stands before its reset. Its gate flags and `spi` are not changed by reset (R28). DESIGN CHOICE,
unsafe (entry 11): all four false. Every other field is written by the reset that follows. -/
def constructedCard : Card where
  cardStatus := 0#32
  ocr := 0#32
  rca := 0#16
  cid := Vector.replicate 16 0x00#8
  csd := Vector.replicate 16 0x00#8
  scr := Vector.replicate 8 0x00#8
  enabled := false
  inserted := false
  hasMedium := false
  spi := false
  disp := resetData.disp

/-- The machine right after the card's reset (R28, R141, R142), with no input pending. -/
def State.reset : State where
  config := specConfig
  card := constructedCard.reset specConfig resetData
  r7 := none
  r16 := none
  inbox := []
  answers := []
  draws := 0
  result := none

end Sys2Proof.Machine
end

