-- ==== Sys2Proof/Machine/Response.lean ====
section
/-! DEFINITION. The Response Encoder (42_response.md): for each tag the bytes and the card state after the encoding, and
`RespEncode(tag, pattern)`, which step 8 of a command transaction and the RESP operations share. -/

namespace Sys2Proof.Machine

/-- What an encoding gives: its bytes, and the card state after it. -/
structure Encoded where
  out : Bytes
  card : Card
  deriving DecidableEq, Repr

/-- "card_status big-endian, then clears its clear-on-read bits": the common form of R1 and R1-busy. -/
def encodeStatus (cfg : Config) (c : Card) : Encoded :=
  { out := be32 c.cardStatus, card := c.setStatus (clearOnRead cfg c.cardStatus) }

/-- R101. -/
def encodeR0 (c : Card) : Encoded := { out := [], card := c }

/-- R102. -/
def encodeR1 (cfg : Config) (c : Card) : Encoded := encodeStatus cfg c

/-- R103: identical to R102; the busy period is not modelled (D23; entry 21). -/
def encodeR1b (cfg : Config) (c : Card) : Encoded := encodeStatus cfg c

/-- R104: the 16 bytes in index order. -/
def encodeR2Cid (c : Card) : Encoded := { out := c.cid.toList, card := c }

/-- R105: the 16 bytes in index order. -/
def encodeR2Csd (c : Card) : Encoded := { out := c.csd.toList, card := c }

/-- R106. -/
def encodeR3 (c : Card) : Encoded := { out := be32 c.ocr, card := c }

/-- R107: the clear-on-read bits that appear in `status16` are cleared. -/
def encodeR6 (cfg : Config) (c : Card) : Encoded :=
  { out := be16 c.rca ++ be16 (status16 c.cardStatus), card := c.setStatus (clearOnR6 cfg c.cardStatus) }

/-- R108. -/
def encodeR7 (pattern : BitVec 32) (c : Card) : Encoded := { out := be32 pattern, card := c }

/-- R109. -/
def encodeIllegal (c : Card) : Encoded := { out := [], card := c }

/-- `RespEncode(tag, pattern)` (41_command_frame.md R87, 42_response.md R101 to R109). -/
def respEncode (cfg : Config) (tag : RespTag) (pattern : BitVec 32) (c : Card) : Encoded :=
  match tag with
  | .r0 => encodeR0 c
  | .r1 => encodeR1 cfg c
  | .r1b => encodeR1b cfg c
  | .r2Cid => encodeR2Cid c
  | .r2Csd => encodeR2Csd c
  | .r3 => encodeR3 c
  | .r6 => encodeR6 cfg c
  | .r7 => encodeR7 pattern c
  | .illegal => encodeIllegal c

/-- The length of a response, known from its tag alone (30_encoding.md R53, R56). -/
def responseLength : RespTag → Nat
  | .r0 => 0
  | .r1 => 4
  | .r1b => 4
  | .r2Cid => 16
  | .r2Csd => 16
  | .r3 => 4
  | .r6 => 4
  | .r7 => 4
  | .illegal => 0

end Sys2Proof.Machine
end

