-- ==== Sys2Proof/Machine/Ops.lean ====
section
/-! DEFINITION. The shared operations over the state: ending a transaction, the framing error, the call of the
dispatcher, step 8, and the command transaction of FR_COMMAND and FR_FRAME (41_command_frame.md rules R86 to R93).
The block takes no exception and returns from none (60_exceptions.md R121, R128): its one error entry is the framing
error, written here once. -/

namespace Sys2Proof.Machine

/-- The step of every operation answers one of the three outcomes of the host's interface. -/
abbrev Answer := Host.Outcome State Fault Refusal

/-- The card state takes a new value. -/
def State.setCard (s : State) (c : Card) : State := { s with card := c }

/-- `return r` (00_scope.md R8): the transaction ends, `r` goes to the host, and the transient registers hold no value
any more (10_state.md R14). -/
def State.finish (s : State) (r : PortResult) : State := { s with result := some r, r7 := none, r16 := none }

/-- An operation whose only effect is what it returns. -/
def State.returns (s : State) (r : PortResult) : Answer := .next (s.finish r)

/-- An encoding called directly by the host (42_response.md): its writes, then its bytes. -/
def State.responds (s : State) (e : Encoded) : Answer := .next ((s.setCard e.card).finish (.bytes e.out))

/-- A framing error (R89, R93, R122): sets `ST_COM_CRC_ERROR`, forces ILLEGAL with no bytes, and changes nothing else. -/
def State.framingError (s : State) : Answer :=
  .next ((s.setCard (s.card.setStatus (setCrcError s.config s.card.cardStatus))).finish
    (.transaction (.tag .illegal) []))

/-- `mode` (60_exceptions.md R129): a pure function of `state` that the spec does not give (entry 14). -/
def State.mode (s : State) : CardMode := Config.modeOf s.card.disp.state

/-- The answer the dispatcher gives to `Dispatch(cmd, arg)` in this state (R86): the next scripted one, or else the
free value (entry 4). -/
def State.dispatchAnswer (s : State) (cmd : BitVec 6) (arg : BitVec 32) : DispatcherAnswer :=
  match s.answers with
  | a :: _ => a
  | [] => Config.freeAnswer s.draws cmd arg s.card

/-- One dispatcher answer is used up: the script advances, or one more free answer has been drawn (entry 4). -/
def State.useAnswer (s : State) : State :=
  match s.answers with
  | _ :: rest => { s with answers := rest }
  | [] => { s with draws := s.draws + 1 }

/-- The state when `Dispatch(cmd, arg)` has returned (R86): its writes are made. -/
def State.dispatched (s : State) (cmd : BitVec 6) (arg : BitVec 32) : State :=
  (s.useAnswer).setCard (s.card.dispatcherWrites s.config (s.dispatchAnswer cmd arg))

/-- The clear of step 8 (R90): only when the tag is not ILLEGAL. -/
def Card.afterTag (cfg : Config) (tag : RespTag) (c : Card) : Card :=
  match tag with
  | .illegal => c
  | .r0 | .r1 | .r1b | .r2Cid | .r2Csd | .r3 | .r6 | .r7 => c.setStatus (clearOnValid cfg c.cardStatus)

/-- Step 8 (R90): encode the response from the state the dispatcher left (R111), then clear the
clear-on-valid-command bits. -/
def State.stepEight (s : State) (tag : RespTag) (pattern : BitVec 32) : Answer :=
  let e := respEncode s.config tag pattern s.card
  .next ((s.setCard (e.card.afterTag s.config tag)).finish (.transaction (.tag tag) e.out))

/-- Steps 3 to 8 (R86, R87): call the dispatcher, then step 8 with its tag. A tag outside the nine is refused. -/
def State.dispatchAndEncode (s : State) (cmd : BitVec 6) (arg : BitVec 32) : Answer :=
  match RespTag.ofCode (s.dispatchAnswer cmd arg).tag with
  | some tag => (s.dispatched cmd arg).stepEight tag (s.dispatchAnswer cmd arg).pattern
  | none => .refused .badDispatcherTag

/-- Steps 2 to 8 (R87, R89, R92): the CRC check, when the configuration makes it, then the dispatcher. -/
def State.checkAndDispatch (s : State) (cmd : BitVec 6) (arg : BitVec 32) (crc : BitVec 7) : Answer :=
  if s.config.checkCmdCrc && !crcMatches s.config cmd arg crc then s.framingError
  else s.dispatchAndEncode cmd arg

/-- Step 1 (R88): a closed gate ends the transaction with GATED and writes nothing. -/
def State.gated (s : State) (whenOpen : Answer) : Answer :=
  if s.card.gateOpen then whenOpen else s.returns (.transaction .gated [])

end Sys2Proof.Machine
end

