-- ==== Sys2Proof/Machine/CrcEngine.lean ====
section
/-! DEFINITION. The meanings of the CRC Engine's operations (40_crc.md): CRC7, CRC16, REG_SEAL, DATA_BLOCK_ENCODE. -/

namespace Sys2Proof.Machine

/-- CRC7 (R68). -/
def execCrc7 (bs : Bytes) (s : State) : Answer := s.returns (.crc7 (crc7 s.config bs))

/-- CRC16 (R69). -/
def execCrc16 (bs : Bytes) (s : State) : Answer := s.returns (.crc16 (crc16 s.config bs))

/-- REG_SEAL (R72): an image of no bytes is refused. -/
def execRegSeal (img : Bytes) (s : State) : Answer :=
  if img.length = 0 then .refused .badLength
  else s.returns (.bytes (regSeal s.config img))

/-- DATA_BLOCK_ENCODE (R74): a block of no bytes or of more than `DATA_BLOCK_MAX` is refused. -/
def execDataBlockEncode (blk : Bytes) (s : State) : Answer :=
  if blk.length = 0 ∨ s.config.dataBlockMax < blk.length then .refused .badLength
  else s.returns (.bytes (dataBlock s.config blk))

end Sys2Proof.Machine
end

