-- ==== Sys2Proof/Machine/Framing.lean ====
section
/-! DEFINITION. The meanings of the framing operations (41_command_frame.md): CMD_ENCODE, CMD_DECODE, CMD_CHECK,
FR_COMMAND, FR_FRAME. -/

namespace Sys2Proof.Machine

/-- CMD_ENCODE (R82). -/
def execCmdEncode (cmd : BitVec 6) (arg : BitVec 32) (s : State) : Answer :=
  s.returns (.bytes (commandFrame s.config cmd arg))

/-- CMD_DECODE (R84): a frame of other than six bytes is refused. -/
def execCmdDecode (frame : Bytes) (s : State) : Answer :=
  match splitFrame frame with
  | some f => s.returns (.fields f.cmd f.arg f.crc f.frameOk)
  | none => .refused .badLength

/-- CMD_CHECK (R85). -/
def execCmdCheck (cmd : BitVec 6) (arg : BitVec 32) (crc : BitVec 7) (s : State) : Answer :=
  s.returns (.check (crcMatches s.config cmd arg crc))

/-- FR_COMMAND (R87): gate, check, dispatch, encode, clear. -/
def execFrCommand (cmd : BitVec 6) (arg : BitVec 32) (crc : BitVec 7) (s : State) : Answer :=
  s.gated (s.checkAndDispatch cmd arg crc)

/-- FR_FRAME (R93): the length, the gate, the start, transmission and end bits, then as FR_COMMAND (R125). -/
def execFrFrame (frame : Bytes) (s : State) : Answer :=
  match splitFrame frame with
  | some f =>
    s.gated (if s.config.checkCmdCrc && !f.frameOk then s.framingError else s.checkAndDispatch f.cmd f.arg f.crc)
  | none => .refused .badLength

/-- The shorthand `CMD<n>(arg)` of 00_scope.md R9 and 30_encoding.md R63: an FR_COMMAND with the correct CRC field.
`ACMD<n>(arg)` is the same request made while `expecting_acmd` is true. -/
def commandRequest (cfg : Config) (cmd : BitVec 6) (arg : BitVec 32) : Instr :=
  .frCommand cmd arg (crc7 cfg (header cfg cmd arg))

end Sys2Proof.Machine
end

