-- ==== Sys2Proof/Machine/RespOps.lean ====
section
/-! DEFINITION. The meanings of the nine RESP operations called directly by the host (42_response.md). They are not
gated (60_exceptions.md R133) and step 8 does not follow them. -/

namespace Sys2Proof.Machine

/-- RESP_R0 (R101). -/
def execRespR0 (s : State) : Answer := s.responds (encodeR0 s.card)

/-- RESP_R1 (R102). -/
def execRespR1 (s : State) : Answer := s.responds (encodeR1 s.config s.card)

/-- RESP_R1B (R103). -/
def execRespR1b (s : State) : Answer := s.responds (encodeR1b s.config s.card)

/-- RESP_R2_CID (R104). -/
def execRespR2Cid (s : State) : Answer := s.responds (encodeR2Cid s.card)

/-- RESP_R2_CSD (R105). -/
def execRespR2Csd (s : State) : Answer := s.responds (encodeR2Csd s.card)

/-- RESP_R3 (R106). -/
def execRespR3 (s : State) : Answer := s.responds (encodeR3 s.card)

/-- RESP_R6 (R107). -/
def execRespR6 (s : State) : Answer := s.responds (encodeR6 s.config s.card)

/-- RESP_R7 (R108). -/
def execRespR7 (pattern : BitVec 32) (s : State) : Answer := s.responds (encodeR7 pattern s.card)

/-- RESP_ILLEGAL (R109). -/
def execRespIllegal (s : State) : Answer := s.responds (encodeIllegal s.card)

end Sys2Proof.Machine
end

