-- ==== Sys2Proof/Machine/Dispatch.lean ====
section
/-! DEFINITION. One arm per operation of the table of 30_encoding.md rule R59. -/

namespace Sys2Proof.Machine

def exec (i : Instr) (s : State) : Host.Outcome State Fault Refusal :=
  match i with
  | .crc7 bs => Sys2Proof.Machine.execCrc7 bs s
  | .crc16 bs => Sys2Proof.Machine.execCrc16 bs s
  | .regSeal img => Sys2Proof.Machine.execRegSeal img s
  | .dataBlockEncode blk => Sys2Proof.Machine.execDataBlockEncode blk s
  | .cmdEncode cmd arg => Sys2Proof.Machine.execCmdEncode cmd arg s
  | .cmdDecode frame => Sys2Proof.Machine.execCmdDecode frame s
  | .cmdCheck cmd arg crc => Sys2Proof.Machine.execCmdCheck cmd arg crc s
  | .frCommand cmd arg crc => Sys2Proof.Machine.execFrCommand cmd arg crc s
  | .frFrame frame => Sys2Proof.Machine.execFrFrame frame s
  | .respR0 => Sys2Proof.Machine.execRespR0 s
  | .respR1 => Sys2Proof.Machine.execRespR1 s
  | .respR1b => Sys2Proof.Machine.execRespR1b s
  | .respR2Cid => Sys2Proof.Machine.execRespR2Cid s
  | .respR2Csd => Sys2Proof.Machine.execRespR2Csd s
  | .respR3 => Sys2Proof.Machine.execRespR3 s
  | .respR6 => Sys2Proof.Machine.execRespR6 s
  | .respR7 pattern => Sys2Proof.Machine.execRespR7 pattern s
  | .respIllegal => Sys2Proof.Machine.execRespIllegal s

end Sys2Proof.Machine
end

