-- ==== Sys2Proof/Machine/Port.lean ====
section
/-! DEFINITION. What one input does (00_scope.md R11, R12): a call on the operation port, and the steps of the card's
other agents between transactions (20_memory.md R42, R43). -/

namespace Sys2Proof.Machine

/-- A call on the operation port (30_encoding.md R59): the decoded operation runs; a reserved code is refused by its
name (R60, R110, R124). -/
def State.runCall (c : PortCall) (s : State) : Answer :=
  match decode c with
  | .ok i => exec i s
  | .error .reservedOp => .refused .reservedOp
  | .error .reservedTag => .refused .reservedTag

/-- The Power-Up Sequencer fires between transactions (60_exceptions.md R130): `ocr[31]` becomes 1 and nothing is
pending any more; with `ocr[31]` already 1 the model faults (70_reset_and_hazards.md R145). Whether it was pending is not asked (entry 16). -/
def State.powerUpFires (s : State) : Answer :=
  if s.card.powerUpDone then .fault .powerUpTwice
  else .next (s.setCard (s.card.assertPowerUp.setDisp { s.card.disp with powerUpPending := false }))

/-- The Data Transfer Engine writes between transactions (00_scope.md R11 (d)). -/
def Card.dataEngineWrites (status : Option (BitVec 32)) (state : Option CardState) (c : Card) : Card :=
  let c1 := match status with | some v => c.setStatus v | none => c
  match state with | some st => c1.setDisp { c1.disp with state := st } | none => c1

/-- One input. A call that another call, a byte call or the sequencer overlaps is refused whatever it is (R124, R144, R145;
entry 8). -/
def State.runEvent (e : Event) (s : State) : Answer :=
  match e with
  | .call c => s.runCall c
  | .overlappedCall _ _ => .refused .hostOverlap
  | .powerUpFires => s.powerUpFires
  | .cardReset d => .next (s.setCard (s.card.reset s.config d))
  | .setEnabled b => .next (s.setCard { s.card with enabled := b })
  | .setInserted b => .next (s.setCard { s.card with inserted := b })
  | .setHasMedium b => .next (s.setCard { s.card with hasMedium := b })
  | .dataEngine status state => .next (s.setCard (s.card.dataEngineWrites status state))

/-- The oldest input is taken from the list. -/
def State.takeInput (s : State) (rest : List Event) : State := { s with inbox := rest }

/-- An input is put before all others. -/
def State.pushInput (s : State) (e : Event) : State := { s with inbox := e :: s.inbox }

/-- The machine takes its next input; with none it rests as it is, since the block "takes a step only when the host
calls one of its operations" (R11; entry 2). -/
def State.advance (s : State) : Answer :=
  match s.inbox with
  | [] => .next s
  | e :: rest => (s.takeInput rest).runEvent e

end Sys2Proof.Machine
end

