-- ==== Sys2Proof/Machine/Step.lean ====
section
/-! DEFINITION. One step of the machine, and how an operation is placed before it. -/

namespace Sys2Proof.Machine

/-- One step: one input of the host or of another agent (00_scope.md R12, 20_memory.md R38). -/
def step (s : State) : Host.Outcome State Fault Refusal := s.advance

/-- `s` with the call a word of the opcode table stands for as its next input (entries 1, 2). -/
def State.withFetchWord (s : State) (nbits w : Nat) : State := s.pushInput (.call (PortCall.ofTableWord nbits w))

end Sys2Proof.Machine
end

