-- ==== Sys2Proof/WellFormed.lean ====
section
/-! DEFINITION. Which operations are well formed: the operand lengths of 20_memory.md rules R32 and R39. Every other
operand is well formed at every value of its width. -/

namespace Sys2Proof

/-- The operand lengths of rule R32; outside them the operation is refused as BadLength (R39, R124). -/
def Instr.wellFormed (cfg : Config) : Instr → Bool
  | .crc7 _ => true
  | .crc16 _ => true
  | .regSeal img => decide (1 ≤ img.length)
  | .dataBlockEncode blk => decide (1 ≤ blk.length) && decide (blk.length ≤ cfg.dataBlockMax)
  | .cmdEncode _ _ => true
  | .cmdDecode frame => decide (frame.length = 6)
  | .cmdCheck _ _ _ => true
  | .frCommand _ _ _ => true
  | .frFrame frame => decide (frame.length = 6)
  | .respR0 => true
  | .respR1 => true
  | .respR1b => true
  | .respR2Cid => true
  | .respR2Csd => true
  | .respR3 => true
  | .respR6 => true
  | .respR7 _ => true
  | .respIllegal => true

end Sys2Proof
end

