-- ==== Sys2Proof/Safety.lean ====
section
/-! DEFINITION. What claims about the machine are stated in: the invariants of the state, runs of several inputs, and
the observations a claim compares. -/

namespace Sys2Proof

/-- The operations that read no external field (20_memory.md R40, 60_exceptions.md R133). -/
def Instr.isPure : Instr → Bool
  | .crc7 _ | .crc16 _ | .regSeal _ | .dataBlockEncode _ | .cmdEncode _ _ | .cmdDecode _ | .cmdCheck _ _ _ => true
  | .frCommand _ _ _ | .frFrame _ => false
  | .respR0 | .respR1 | .respR1b | .respR2Cid | .respR2Csd | .respR3 | .respR6 | .respR7 _ | .respIllegal => false

/-- The operations that are command transactions (41_command_frame.md R87, R93). -/
def Instr.isCommand : Instr → Bool
  | .frCommand _ _ _ | .frFrame _ => true
  | .crc7 _ | .crc16 _ | .regSeal _ | .dataBlockEncode _ | .cmdEncode _ _ | .cmdDecode _ | .cmdCheck _ _ _ => false
  | .respR0 | .respR1 | .respR1b | .respR2Cid | .respR2Csd | .respR3 | .respR6 | .respR7 _ | .respIllegal => false

/-- The request a command transaction hands to the dispatcher: its index and its argument (41_command_frame.md R86, R93). -/
def Instr.request : Instr → Option (BitVec 6 × BitVec 32)
  | .frCommand cmd arg _ => some (cmd, arg)
  | .frFrame frame => (Machine.splitFrame frame).map (fun f => (f.cmd, f.arg))
  | .crc7 _ | .crc16 _ | .regSeal _ | .dataBlockEncode _ | .cmdEncode _ _ | .cmdDecode _ | .cmdCheck _ _ _ => none
  | .respR0 | .respR1 | .respR1b | .respR2Cid | .respR2Csd | .respR3 | .respR6 | .respR7 _ | .respIllegal => none

end Sys2Proof

namespace Sys2Proof.Machine

/-- The register images are sealed (10_state.md R22, 40_crc.md R73): CID and CSD always, SCR when `SCR_SEALED`. -/
abbrev State.registersSealed (s : State) : Prop :=
  isSealed s.config s.card.cid = true ∧ isSealed s.config s.card.csd = true ∧
    (s.config.scrSealed = true → isSealed s.config s.card.scr = true)

/-- The transient registers hold no value, as between any two computations (10_state.md R14, R28). -/
abbrev State.transientsEmpty (s : State) : Prop := s.r7 = none ∧ s.r16 = none

/-- The invariant of the machine between transactions. -/
abbrev State.wellFormed (s : State) : Prop := s.registersSealed ∧ s.transientsEmpty

/-- A run of several operations, one after the other, stopping at the first fault or refusal. -/
def execAll : List Instr → State → Answer
  | [], s => .next s
  | i :: is, s =>
    match exec i s with
    | .next t => execAll is t
    | .fault r => .fault r
    | .refused r => .refused r

/-- A run of `n` steps, stopping at the first fault or refusal. -/
def stepN : Nat → State → Answer
  | 0, s => .next s
  | n + 1, s =>
    match step s with
    | .next t => stepN n t
    | .fault r => .fault r
    | .refused r => .refused r

/-- An answer with its next state changed by `f`; a stop stays as it is. -/
def mapNext (f : State → State) : Answer → Answer
  | .next t => .next (f t)
  | .fault r => .fault r
  | .refused r => .refused r

end Sys2Proof.Machine
end

