-- ==== Sys2Proof/Certificates/Slice0/Obligations.lean ====
section
/-! DEFINITION. The statements for the provers, each from a numbered rule of the spec. Every statement about an
operation holds for every configuration and every state; a next state is written out as the state before with the
fields that change, so that it says what stays as well. -/

open Sys2Proof Sys2Proof.Machine

/-! ## The operation port -/

/-- A few codes of the table of 30_encoding.md R59, written out bit by bit, and two reserved ones. The operands are the
zeros of entry 1. -/
def Obligations.WrittenOutCodesDecode : Prop :=
  decodeTableWord 8 0b00000000 = some (.crc7 [0, 0, 0, 0, 0, 0]) ∧
  decodeTableWord 8 0b00000100 = some (.cmdEncode 0 0) ∧
  decodeTableWord 8 0b00001000 = some (.frFrame [0, 0, 0, 0, 0, 0]) ∧
  decodeTableWord 8 0b00010001 = some .respR1 ∧
  decodeTableWord 8 0b00010110 = some .respR6 ∧
  decodeTableWord 8 0b00011000 = some .respIllegal ∧
  decodeTableWord 8 0b00001001 = none ∧
  decodeTableWord 8 0b00011111 = none

/-- R59: the table of operation codes, every code of the eighteen with its operands of R61, and the two reserved
ranges. -/
def Obligations.OperationCodesSelectOperations : Prop :=
  ∀ c : PortCall,
    (c.op = 0x00#5 → decode c = .ok (.crc7 c.bytes)) ∧
    (c.op = 0x01#5 → decode c = .ok (.crc16 c.bytes)) ∧
    (c.op = 0x02#5 → decode c = .ok (.regSeal c.bytes)) ∧
    (c.op = 0x03#5 → decode c = .ok (.dataBlockEncode c.bytes)) ∧
    (c.op = 0x04#5 → decode c = .ok (.cmdEncode c.cmd c.arg)) ∧
    (c.op = 0x05#5 → decode c = .ok (.cmdDecode c.bytes)) ∧
    (c.op = 0x06#5 → decode c = .ok (.cmdCheck c.cmd c.arg c.crc)) ∧
    (c.op = 0x07#5 → decode c = .ok (.frCommand c.cmd c.arg c.crc)) ∧
    (c.op = 0x08#5 → decode c = .ok (.frFrame c.bytes)) ∧
    (0x09 ≤ c.op.toNat ∧ c.op.toNat ≤ 0x0F → decode c = .error .reservedOp) ∧
    (c.op = 1#1 ++ RespTag.r0.code → decode c = .ok .respR0) ∧
    (c.op = 1#1 ++ RespTag.r1.code → decode c = .ok .respR1) ∧
    (c.op = 1#1 ++ RespTag.r1b.code → decode c = .ok .respR1b) ∧
    (c.op = 1#1 ++ RespTag.r2Cid.code → decode c = .ok .respR2Cid) ∧
    (c.op = 1#1 ++ RespTag.r2Csd.code → decode c = .ok .respR2Csd) ∧
    (c.op = 1#1 ++ RespTag.r3.code → decode c = .ok .respR3) ∧
    (c.op = 1#1 ++ RespTag.r6.code → decode c = .ok .respR6) ∧
    (c.op = 1#1 ++ RespTag.r7.code → decode c = .ok (.respR7 c.pattern)) ∧
    (c.op = 1#1 ++ RespTag.illegal.code → decode c = .ok .respIllegal) ∧
    (0x19 ≤ c.op.toNat → decode c = .error .reservedTag)

/-- Decoding an encoded operation gives it back, and a call decodes to an operation only from that operation's code. -/
def Obligations.PortDecodeAndEncodeAgree : Prop :=
  (∀ i : Instr, decode (encode i) = .ok i) ∧
  (∀ (c : PortCall) (i : Instr), decode c = .ok i → c.op = (encode i).op ∧
    decode { c with op := (encode i).op } = .ok i)

/-- A step runs the operation the next call decodes to, with that call taken from the inputs; a call that decodes to none
is answered by the port; with no input the machine rests. That calls stand in `inbox` is the model's choice (entry 2). -/
def Obligations.StepRunsTheDecodedCall : Prop :=
  (∀ (s : State) (c : PortCall) (rest : List Event) (i : Instr),
    s.inbox = .call c :: rest → decode c = .ok i → step s = exec i { s with inbox := rest }) ∧
  (∀ (s : State) (c : PortCall) (rest : List Event),
    s.inbox = .call c :: rest → step s = State.runCall c { s with inbox := rest }) ∧
  (∀ s : State, s.inbox = [] → step s = .next s)

/-- R60: a reserved code spells no operation and is refused, so it changes no state and returns no bytes; every other code
spells one. -/
def Obligations.ReservedCodesAreRefused : Prop :=
  ∀ (s : State) (c : PortCall),
    (0x09 ≤ c.op.toNat ∧ c.op.toNat ≤ 0x0F → s.runCall c = .refused .reservedOp) ∧
    (0x19 ≤ c.op.toNat → s.runCall c = .refused .reservedTag) ∧
    ((∃ i, decode c = .ok i) ↔ ¬ (0x09 ≤ c.op.toNat ∧ c.op.toNat ≤ 0x0F) ∧ ¬ 0x19 ≤ c.op.toNat)

/-! ## The CRC Engine -/

/-- R66 and R67: the two step functions, for every polynomial, and the generators the spec takes. -/
def Obligations.CrcStepsAreGaloisRegisters : Prop :=
  (∀ (cfg : Config) (r : BitVec 7) (d : Bool), crc7Step cfg r d =
    if (r.getLsbD 6 ^^ d) = true then (r.extractLsb' 0 6 ++ 0#1) ^^^ cfg.crc7Poly else r.extractLsb' 0 6 ++ 0#1) ∧
  (∀ (cfg : Config) (r : BitVec 16) (d : Bool), crc16Step cfg r d =
    if (r.getLsbD 15 ^^ d) = true then (r.extractLsb' 0 15 ++ 0#1) ^^^ cfg.crc16Poly else r.extractLsb' 0 15 ++ 0#1) ∧
  specConfig.crc7Poly = 0x09#7 ∧ specConfig.crc16Poly = 0x1021#16

/-- R68: CRC7 completes in every state and on every list; the register starts at `CRC7_INIT` and takes each byte from
bit 7 down to bit 0. -/
def Obligations.Crc7IsBitSerial : Prop :=
  ∀ (bs : Bytes) (s : State),
    exec (.crc7 bs) s = .next { s with result := some (.crc7 (crc7 s.config bs)), r7 := none, r16 := none } ∧
    (encode (.crc7 bs)).op = 0x00#5 ∧ decode (encode (.crc7 bs)) = .ok (.crc7 bs) ∧
    crc7 s.config [] = s.config.crc7Init ∧ specConfig.crc7Init = 0x00#7 ∧
    (s.config.bitOrder = .msbFirst → ∀ b : Byte, crc7 s.config (bs ++ [b]) =
      [b.getLsbD 7, b.getLsbD 6, b.getLsbD 5, b.getLsbD 4, b.getLsbD 3, b.getLsbD 2, b.getLsbD 1, b.getLsbD 0].foldl
        (crc7Step s.config) (crc7 s.config bs)) ∧
    (s.config.crc7Init = 0x00#7 → ∀ n : Nat, crc7 s.config (List.replicate n 0x00#8) = 0x00#7) ∧
    (crc7 s.config bs).toNat < 0x80 ∧
    crc7 specConfig [0x40, 0x00, 0x00, 0x00, 0x00] = 0x4A#7

/-- R69: CRC16 completes in every state and on every list; the register starts at `CRC16_INIT` and takes each byte from
bit 7 down to bit 0. -/
def Obligations.Crc16IsBitSerial : Prop :=
  ∀ (bs : Bytes) (s : State),
    exec (.crc16 bs) s = .next { s with result := some (.crc16 (crc16 s.config bs)), r7 := none, r16 := none } ∧
    (encode (.crc16 bs)).op = 0x01#5 ∧ decode (encode (.crc16 bs)) = .ok (.crc16 bs) ∧
    crc16 s.config [] = s.config.crc16Init ∧ specConfig.crc16Init = 0x0000#16 ∧
    (s.config.bitOrder = .msbFirst → ∀ b : Byte, crc16 s.config (bs ++ [b]) =
      [b.getLsbD 7, b.getLsbD 6, b.getLsbD 5, b.getLsbD 4, b.getLsbD 3, b.getLsbD 2, b.getLsbD 1, b.getLsbD 0].foldl
        (crc16Step s.config) (crc16 s.config bs)) ∧
    (s.config.crc16Init = 0x0000#16 → ∀ n : Nat, crc16 s.config (List.replicate n 0x00#8) = 0x0000#16) ∧
    crc16 specConfig [0x01] = 0x1021#16 ∧
    crc16 specConfig (List.replicate 512 0xFF#8) = 0x7FA1#16

/-- R70 (a), linearity, of both computers, in either bit order and for every polynomial. -/
def Obligations.CrcsAreLinear : Prop :=
  ∀ (cfg : Config) (a b : Bytes), a.length = b.length →
    (cfg.crc7Init = 0#7 → crc7 cfg (List.zipWith (· ^^^ ·) a b) = crc7 cfg a ^^^ crc7 cfg b) ∧
    (cfg.crc16Init = 0#16 → crc16 cfg (List.zipWith (· ^^^ ·) a b) = crc16 cfg a ^^^ crc16 cfg b)

/-- R70 (b): leading zero bytes do not change the result. -/
def Obligations.LeadingZeroBytesDoNotChangeCrcs : Prop :=
  ∀ (cfg : Config) (n : Nat) (bs : Bytes),
    (cfg.crc7Init = 0#7 → crc7 cfg (List.replicate n 0x00#8 ++ bs) = crc7 cfg bs) ∧
    (cfg.crc16Init = 0#16 → crc16 cfg (List.replicate n 0x00#8 ++ bs) = crc16 cfg bs)

/-- R70 (c), the residue law: a list followed by its own CRC gives 0, so a received data block (R75) checks by one
CRC16. For every polynomial. -/
def Obligations.CrcResidueIsZero : Prop :=
  ∀ (bs : Bytes) (s : State), s.config.bitOrder = .msbFirst →
    (s.config.crc16Init = 0#16 →
      exec (.crc16 (bs ++ be16 (crc16 s.config bs))) s =
        .next { s with result := some (.crc16 0x0000#16), r7 := none, r16 := none }) ∧
    (s.config.crc7Init = 0#7 →
      exec (.crc7 (bs ++ [crc7 s.config bs ++ 0#1])) s =
        .next { s with result := some (.crc7 0x00#7), r7 := none, r16 := none })

/-- R70 (d): CRC7 and CRC16 are the remainders of `M(x) · x^W` by `G(x)` over GF(2), where `M(x)` is the input read as a
polynomial, first bit the highest power, and `G(x)` is `x^W` plus the polynomial of the parameter. -/
def Obligations.CrcsArePolynomialRemainders : Prop :=
  ∀ (cfg : Config) (bs : Bytes),
    let message : Polynomial (ZMod 2) :=
      (bs.flatMap (byteBits cfg.bitOrder)).foldl (fun p d => p * Polynomial.X + (if d then 1 else 0)) 0
    let ofBits : (w : Nat) → BitVec w → Polynomial (ZMod 2) :=
      fun w v => (Finset.range w).sum (fun k => if v.getLsbD k then Polynomial.X ^ k else 0)
    (cfg.crc7Init = 0#7 →
      ofBits 7 (crc7 cfg bs) = (message * Polynomial.X ^ 7) %ₘ (Polynomial.X ^ 7 + ofBits 7 cfg.crc7Poly)) ∧
    (cfg.crc16Init = 0#16 →
      ofBits 16 (crc16 cfg bs) = (message * Polynomial.X ^ 16) %ₘ (Polynomial.X ^ 16 + ofBits 16 cfg.crc16Poly))

/-- R71: the trailer byte is the CRC-7 shifted left by one, with a 1 in bit 0; it ends a command frame and closes a
register image. -/
def Obligations.TrailerHoldsCrcAndEndBit : Prop :=
  (∀ c : BitVec 7, trailer c = (c.setWidth 8 <<< 1) ||| 0x01#8 ∧ (trailer c).extractLsb' 1 7 = c ∧
    (trailer c).getLsbD 0 = true) ∧
  (∀ (cfg : Config) (cmd : BitVec 6) (arg : BitVec 32),
    (commandFrame cfg cmd arg)[5]? = some (trailer (crc7 cfg (header cfg cmd arg)))) ∧
  (∀ (cfg : Config) (img : Bytes), img ≠ [] →
    (regSeal cfg img)[img.length - 1]? = some (trailer (crc7 cfg (img.take (img.length - 1)))))

/-- R72: REG_SEAL replaces the last byte of an image by the trailer of the bytes before it, whatever it was, and refuses
an image of no bytes; sealing twice is sealing once. -/
def Obligations.RegSealClosesAnImage : Prop :=
  ∀ (img : Bytes) (last : Byte) (s : State),
    exec (.regSeal (img ++ [last])) s = .next { s with
      result := some (.bytes (img ++ [trailer (crc7 s.config img)])), r7 := none, r16 := none } ∧
    exec (.regSeal []) s = .refused .badLength ∧
    (encode (.regSeal img)).op = 0x02#5 ∧ decode (encode (.regSeal img)) = .ok (.regSeal img) ∧
    regSeal s.config (regSeal s.config (img ++ [last])) = regSeal s.config (img ++ [last]) ∧
    regSeal specConfig [last] = [0x01#8] ∧
    regSeal specConfig (List.replicate 16 0x00#8) = List.replicate 15 0x00#8 ++ [0x01#8]

/-- R74: DATA_BLOCK_ENCODE appends the CRC-16, most significant byte first, to a block of 1 to `DATA_BLOCK_MAX` bytes, and
refuses any other length. -/
def Obligations.DataBlockEncodeAppendsCrc : Prop :=
  ∀ (blk : Bytes) (s : State),
    (1 ≤ blk.length → blk.length ≤ s.config.dataBlockMax →
      exec (.dataBlockEncode blk) s = .next { s with
        result := some (.bytes (blk ++ [(crc16 s.config blk).extractLsb' 8 8, (crc16 s.config blk).extractLsb' 0 8])),
        r7 := none, r16 := none }) ∧
    (blk.length = 0 ∨ s.config.dataBlockMax < blk.length → exec (.dataBlockEncode blk) s = .refused .badLength) ∧
    specConfig.dataBlockMax = 512 ∧
    (encode (.dataBlockEncode blk)).op = 0x03#5 ∧ decode (encode (.dataBlockEncode blk)) = .ok (.dataBlockEncode blk) ∧
    (dataBlock s.config blk).length = blk.length + 2 ∧
    dataBlock specConfig [0x00] = [0x00, 0x00, 0x00] ∧
    dataBlock specConfig (List.replicate 512 0xFF#8) = List.replicate 512 0xFF#8 ++ [0x7F#8, 0xA1#8]

/-! ## Command framing -/

/-- R82 with the header of R81: CMD_ENCODE completes for every index and argument. -/
def Obligations.CmdEncodeBuildsTheFrame : Prop :=
  ∀ (cmd : BitVec 6) (arg : BitVec 32) (s : State),
    let h : Bytes := [s.config.hdrPrefix ++ cmd, arg.extractLsb' 24 8, arg.extractLsb' 16 8, arg.extractLsb' 8 8,
      arg.extractLsb' 0 8]
    exec (.cmdEncode cmd arg) s = .next { s with
      result := some (.bytes (h ++ [crc7 s.config h ++ 1#1])), r7 := none, r16 := none } ∧
    (encode (.cmdEncode cmd arg)).op = 0x04#5 ∧ decode (encode (.cmdEncode cmd arg)) = .ok (.cmdEncode cmd arg) ∧
    specConfig.hdrPrefix = 0b01#2 ∧ (0b01#2 ++ cmd : BitVec (2 + 6)) = 0x40#8 ||| cmd.setWidth 8 ∧
    commandFrame specConfig 0 0x00000000 = [0x40, 0x00, 0x00, 0x00, 0x00, 0x95] ∧
    commandFrame specConfig 63 0xFFFFFFFF = [0x7F, 0xFF, 0xFF, 0xFF, 0xFF, 0x19] ∧
    commandFrame specConfig 8 0x000001AA = [0x48, 0x00, 0x00, 0x01, 0xAA, 0x87]

/-- R84: CMD_DECODE splits every frame of six bytes into the fields of R50, refuses every other length, and takes an
encoded command apart into what it was made of. -/
def Obligations.CmdDecodeSplitsTheFrame : Prop :=
  ∀ (s : State) (frame : Bytes) (b0 b1 b2 b3 b4 b5 : Byte) (cmd : BitVec 6) (arg : BitVec 32),
    exec (.cmdDecode [b0, b1, b2, b3, b4, b5]) s = .next { s with
      result := some (.fields (b0.extractLsb' 0 6) (b1 ++ b2 ++ b3 ++ b4) (b5.extractLsb' 1 7)
        (decide (b0.getLsbD 7 = false ∧ b0.getLsbD 6 = true ∧ b5.getLsbD 0 = true))),
      r7 := none, r16 := none } ∧
    (frame.length ≠ 6 → exec (.cmdDecode frame) s = .refused .badLength) ∧
    (encode (.cmdDecode frame)).op = 0x05#5 ∧ decode (encode (.cmdDecode frame)) = .ok (.cmdDecode frame) ∧
    (s.config.hdrPrefix = 0b01#2 → exec (.cmdDecode (commandFrame s.config cmd arg)) s = .next { s with
      result := some (.fields cmd arg (crc7 s.config (header s.config cmd arg)) true), r7 := none, r16 := none }) ∧
    splitFrame [0x00, 0x00, 0x00, 0x00, 0x00, 0x95] = some ⟨0, 0, 0x4A, false⟩ ∧
    splitFrame [0xC0, 0x00, 0x00, 0x00, 0x00, 0x95] = some ⟨0, 0, 0x4A, false⟩ ∧
    splitFrame [0x40, 0x00, 0x00, 0x00, 0x00, 0x94] = some ⟨0, 0, 0x4A, false⟩ ∧
    splitFrame [0x40, 0x00, 0x00, 0x00, 0x00, 0x95] = some ⟨0, 0, 0x4A, true⟩

/-- The frame's encoding and decoding agree (R46, R50, R84): the byte lists that decode with good fixed bits and a matching
CRC are exactly the encoded commands, each of its own index and argument. -/
def Obligations.FrameDecodeAndEncodeAgree : Prop :=
  ∀ (cfg : Config) (frame : Bytes) (cmd : BitVec 6) (arg : BitVec 32), cfg.hdrPrefix = 0b01#2 →
    (frame = commandFrame cfg cmd arg ↔
      ∃ crc, splitFrame frame = some ⟨cmd, arg, crc, true⟩ ∧ crcMatches cfg cmd arg crc = true)

/-- R85: CMD_CHECK completes on every operand and compares the CRC field with the CRC-7 of the header; exactly one of the
128 fields passes, and with the generator of R66 a change of one bit of a 5-byte header changes the CRC. -/
def Obligations.CmdCheckComparesTheCrc : Prop :=
  ∀ (cmd : BitVec 6) (arg : BitVec 32) (crc : BitVec 7) (s : State),
    exec (.cmdCheck cmd arg crc) s = .next { s with
      result := some (.check (decide (crc7 s.config (header s.config cmd arg) = crc))), r7 := none, r16 := none } ∧
    (encode (.cmdCheck cmd arg crc)).op = 0x06#5 ∧
    decode (encode (.cmdCheck cmd arg crc)) = .ok (.cmdCheck cmd arg crc) ∧
    (∃! c : BitVec 7, crcMatches s.config cmd arg c = true) ∧
    (s.config.crc7Poly = 0x09#7 → ∀ k : Nat, k < 32 → crcMatches s.config cmd arg crc = true →
      crcMatches s.config cmd (arg ^^^ (1#32 <<< k)) crc = false) ∧
    (s.config.crc7Poly = 0x09#7 → ∀ (h : Bytes) (n k : Nat), h.length = 5 → n < 5 → k < 8 →
      crc7 s.config (h.modify n (· ^^^ (1#8 <<< k))) ≠ crc7 s.config h) ∧
    crcMatches specConfig 0 0 0x4A#7 = true ∧ crcMatches specConfig 0 0 0x4B#7 = false

/-- R86: the dispatcher is called with its answer as an input: the next scripted answer, or a free value where none is
scripted (the model's form of the parameter, entries 4 and 5). It writes neither the gate flags nor `spi`; it may write
`ocr[30:0]` and set `ocr[31]`, and clears `ocr[31]` only by a reset. -/
def Obligations.DispatcherAnswersAreInputs : Prop :=
  ∀ (s : State) (cmd : BitVec 6) (arg : BitVec 32),
    (∀ a rest, s.answers = a :: rest → s.dispatchAnswer cmd arg = a ∧
      s.dispatched cmd arg = { s with answers := rest, card := s.card.dispatcherWrites s.config a }) ∧
    (s.answers = [] → s.dispatchAnswer cmd arg = Config.freeAnswer s.draws cmd arg s.card ∧
      s.dispatched cmd arg = { s with
        draws := s.draws + 1, card := s.card.dispatcherWrites s.config (s.dispatchAnswer cmd arg) }) ∧
    (s.dispatched cmd arg).card.enabled = s.card.enabled ∧ (s.dispatched cmd arg).card.inserted = s.card.inserted ∧
    (s.dispatched cmd arg).card.hasMedium = s.card.hasMedium ∧ (s.dispatched cmd arg).card.spi = s.card.spi ∧
    (∀ v, (s.dispatchAnswer cmd arg).ocrLow = some v → (s.dispatched cmd arg).card.ocr.extractLsb' 0 31 = v) ∧
    ((s.dispatchAnswer cmd arg).assertPowerUp = true → (s.dispatched cmd arg).card.ocr.getLsbD 31 = true) ∧
    ((s.dispatchAnswer cmd arg).reset = none → s.card.ocr.getLsbD 31 = true →
      (s.dispatched cmd arg).card.ocr.getLsbD 31 = true)

/-- R87: FR_COMMAND, its five steps in order, on every state. `RespTag.ofCode` is the tag of a code, by R53. -/
def Obligations.FrCommandRunsItsSteps : Prop :=
  ∀ (cmd : BitVec 6) (arg : BitVec 32) (crc : BitVec 7) (s : State),
    let open_ := s.card.enabled = true ∧ s.card.inserted = true ∧ s.card.hasMedium = true
    let good := s.config.checkCmdCrc = false ∨ crc7 s.config (header s.config cmd arg) = crc
    let answer := s.dispatchAnswer cmd arg
    let after := s.dispatched cmd arg
    (¬ open_ → exec (.frCommand cmd arg crc) s = .next { s with
      result := some (.transaction .gated []), r7 := none, r16 := none }) ∧
    (open_ → ¬ good → exec (.frCommand cmd arg crc) s = .next { s with
      card := { s.card with cardStatus := s.card.cardStatus ||| s.config.stComCrcError },
      result := some (.transaction (.tag .illegal) []), r7 := none, r16 := none }) ∧
    (open_ → good → RespTag.ofCode answer.tag = none →
      exec (.frCommand cmd arg crc) s = .refused .badDispatcherTag) ∧
    (open_ → good → ∀ tag, RespTag.ofCode answer.tag = some tag →
      exec (.frCommand cmd arg crc) s = .next { after with
        card := (respEncode s.config tag answer.pattern after.card).card.setStatus
          (if tag = .illegal then (respEncode s.config tag answer.pattern after.card).card.cardStatus
           else (respEncode s.config tag answer.pattern after.card).card.cardStatus &&& ~~~s.config.maskClearOnValid),
        result := some (.transaction (.tag tag) (respEncode s.config tag answer.pattern after.card).out),
        r7 := none, r16 := none }) ∧
    (encode (.frCommand cmd arg crc)).op = 0x07#5 ∧
    decode (encode (.frCommand cmd arg crc)) = .ok (.frCommand cmd arg crc) ∧
    (cmd = 13 → arg = 0x45670000 → crc = 0x51 → s.config = specConfig → open_ →
      s.card.cardStatus = 0x00000900 → answer.tag = 0x1 → after.card = s.card →
      exec (.frCommand cmd arg crc) s = .next { after with
        card := { s.card with cardStatus := 0x00000100#32 },
        result := some (.transaction (.tag .r1) [0x00, 0x00, 0x09, 0x00]), r7 := none, r16 := none })

/-- R88: a closed gate returns GATED with no bytes and writes nothing, whatever the CRC field; the dispatcher is not
called. The same for FR_FRAME on every frame of six bytes (R125). -/
def Obligations.ClosedGateWritesNothing : Prop :=
  ∀ (s : State) (cmd : BitVec 6) (arg : BitVec 32) (crc : BitVec 7) (frame : Bytes),
    (s.card.enabled = false ∨ s.card.inserted = false ∨ s.card.hasMedium = false) →
    exec (.frCommand cmd arg crc) s = .next { s with
      result := some (.transaction .gated []), r7 := none, r16 := none } ∧
    (frame.length = 6 → exec (.frFrame frame) s = .next { s with
      result := some (.transaction .gated []), r7 := none, r16 := none })

/-- R133: while the gate is closed, any run of command transactions leaves the card, the dispatcher's answers and the
configuration as they are. -/
def Obligations.StateSurvivesWhileGated : Prop :=
  ∀ (ops : List Instr) (s : State),
    (∀ i ∈ ops, i.isCommand = true ∧ i.wellFormed s.config = true) → s.card.gateOpen = false →
    ∃ t, execAll ops s = .next t ∧ t.card = s.card ∧ t.answers = s.answers ∧ t.draws = s.draws ∧ t.config = s.config

/-- R89: a CRC mismatch sets the CRC-error bit, returns ILLEGAL with no bytes and changes nothing else: the dispatcher is
not called, the illegal-command bit (22) is not set, the clear-on-valid-command bits are not cleared. -/
def Obligations.CrcMismatchIsAFramingError : Prop :=
  ∀ (s : State) (cmd : BitVec 6) (arg : BitVec 32) (crc : BitVec 7),
    s.card.gateOpen = true → s.config.checkCmdCrc = true → crc7 s.config (header s.config cmd arg) ≠ crc →
    ∃ t, exec (.frCommand cmd arg crc) s = .next t ∧ t.result = some (.transaction (.tag .illegal) []) ∧
      t = { s with card := { s.card with cardStatus := t.card.cardStatus }, result := t.result, r7 := none, r16 := none } ∧
      t.card.cardStatus = s.card.cardStatus ||| s.config.stComCrcError ∧
      (s.config.stComCrcError = 0x00800000#32 →
        t.card.cardStatus.getLsbD 23 = true ∧
        ∀ k, k ≠ 23 → t.card.cardStatus.getLsbD k = s.card.cardStatus.getLsbD k)

/-- R90 and R91: step 8 for each tag, from the card `d` the dispatcher left: the bytes of R101 to R109 read `d`, and the
clear of the clear-on-valid-command bits comes after, for every tag but ILLEGAL. -/
def Obligations.StepEightEncodesThenClears : Prop :=
  ∀ (s : State) (cmd : BitVec 6) (arg : BitVec 32) (crc : BitVec 7),
    let after := s.dispatched cmd arg
    let d := after.card
    let code := (s.dispatchAnswer cmd arg).tag
    let ends (status : BitVec 32) (tag : RespTag) (out : Bytes) : Answer := .next { after with
      card := { d with cardStatus := status }, result := some (.transaction (.tag tag) out), r7 := none, r16 := none }
    s.card.gateOpen = true → crcMatches s.config cmd arg crc = true →
    (code = 0x0#4 → exec (.frCommand cmd arg crc) s =
      ends (d.cardStatus &&& ~~~s.config.maskClearOnValid) .r0 []) ∧
    (code = 0x1#4 → exec (.frCommand cmd arg crc) s =
      ends (d.cardStatus &&& ~~~s.config.maskClearOnRead &&& ~~~s.config.maskClearOnValid) .r1 (be32 d.cardStatus)) ∧
    (code = 0x2#4 → exec (.frCommand cmd arg crc) s =
      ends (d.cardStatus &&& ~~~s.config.maskClearOnRead &&& ~~~s.config.maskClearOnValid) .r1b (be32 d.cardStatus)) ∧
    (code = 0x3#4 → exec (.frCommand cmd arg crc) s =
      ends (d.cardStatus &&& ~~~s.config.maskClearOnValid) .r2Cid d.cid.toList) ∧
    (code = 0x4#4 → exec (.frCommand cmd arg crc) s =
      ends (d.cardStatus &&& ~~~s.config.maskClearOnValid) .r2Csd d.csd.toList) ∧
    (code = 0x5#4 → exec (.frCommand cmd arg crc) s =
      ends (d.cardStatus &&& ~~~s.config.maskClearOnValid) .r3 (be32 d.ocr)) ∧
    (code = 0x6#4 → exec (.frCommand cmd arg crc) s =
      ends (d.cardStatus &&& ~~~(s.config.maskClearOnRead &&& s.config.r6SrcMask) &&& ~~~s.config.maskClearOnValid) .r6
        (be16 d.rca ++ be16 (d.cardStatus.extractLsb' 22 2 ++ d.cardStatus.extractLsb' 19 1 ++
          d.cardStatus.extractLsb' 0 13))) ∧
    (code = 0x7#4 → exec (.frCommand cmd arg crc) s =
      ends (d.cardStatus &&& ~~~s.config.maskClearOnValid) .r7 (be32 (s.dispatchAnswer cmd arg).pattern)) ∧
    (code = 0x8#4 → exec (.frCommand cmd arg crc) s = ends d.cardStatus .illegal []) ∧
    (0x9 ≤ code.toNat → exec (.frCommand cmd arg crc) s = .refused .badDispatcherTag)

/-- R92 and 90_conflicts.md C4: with `CHECK_CMD_CRC` false every request that passes the gate is dispatched whatever its
CRC field and its frame's fixed bits, and the block sets no status bit: every bit set at the end was left set by the
dispatcher. -/
def Obligations.UncheckedCrcIsDispatched : Prop :=
  ∀ (s : State) (cmd : BitVec 6) (arg : BitVec 32) (crc : BitVec 7) (b0 b1 b2 b3 b4 b5 : Byte),
    s.config.checkCmdCrc = false → s.card.gateOpen = true →
    exec (.frCommand cmd arg crc) s = s.dispatchAndEncode cmd arg ∧
    exec (.frFrame [b0, b1, b2, b3, b4, b5]) s = s.dispatchAndEncode (b0.extractLsb' 0 6) (b1 ++ b2 ++ b3 ++ b4) ∧
    (∀ t, exec (.frCommand cmd arg crc) s = .next t →
      t.card.cardStatus &&& ~~~(s.dispatched cmd arg).card.cardStatus = 0#32) ∧
    (∀ t, exec (.frFrame [b0, b1, b2, b3, b4, b5]) s = .next t → t.card.cardStatus &&&
      ~~~(s.dispatched (b0.extractLsb' 0 6) (b1 ++ b2 ++ b3 ++ b4)).card.cardStatus = 0#32)

/-- R93: FR_FRAME: the length first, then the gate, then the start, transmission and end bits, then FR_COMMAND; the frame
of an encoded command acts as that command with its correct CRC field, `CMD<n>(arg)` of R63. -/
def Obligations.FrFrameChecksInOrder : Prop :=
  ∀ (s : State) (frame : Bytes) (b0 b1 b2 b3 b4 b5 : Byte) (cmd : BitVec 6) (arg : BitVec 32),
    let fixed := b0.getLsbD 7 = false ∧ b0.getLsbD 6 = true ∧ b5.getLsbD 0 = true
    (frame.length ≠ 6 → exec (.frFrame frame) s = .refused .badLength) ∧
    (s.card.gateOpen = false → exec (.frFrame [b0, b1, b2, b3, b4, b5]) s = .next { s with
      result := some (.transaction .gated []), r7 := none, r16 := none }) ∧
    (s.card.gateOpen = true → s.config.checkCmdCrc = true → ¬ fixed →
      exec (.frFrame [b0, b1, b2, b3, b4, b5]) s = .next { s with
        card := { s.card with cardStatus := s.card.cardStatus ||| s.config.stComCrcError },
        result := some (.transaction (.tag .illegal) []), r7 := none, r16 := none }) ∧
    (s.card.gateOpen = true → s.config.checkCmdCrc = false ∨ fixed →
      exec (.frFrame [b0, b1, b2, b3, b4, b5]) s =
        exec (.frCommand (b0.extractLsb' 0 6) (b1 ++ b2 ++ b3 ++ b4) (b5.extractLsb' 1 7)) s) ∧
    (s.config.hdrPrefix = 0b01#2 →
      exec (.frFrame (commandFrame s.config cmd arg)) s = exec (commandRequest s.config cmd arg) s) ∧
    (s.card.gateOpen = true → s.config = specConfig → ∃ t,
      exec (.frFrame [0x40, 0x00, 0x00, 0x00, 0x00, 0x94]) s = .next t ∧ t.card.cardStatus.getLsbD 23 = true ∧
      t.result = some (.transaction (.tag .illegal) [])) ∧
    (encode (.frFrame frame)).op = 0x08#5 ∧ decode (encode (.frFrame frame)) = .ok (.frFrame frame)

/-- Every FR_FRAME of an encoded command completes when its answer has a tag (R93, R86): GATED, or the dispatched tag. -/
def Obligations.FrFrameCompletes : Prop :=
  ∀ (s : State) (cmd : BitVec 6) (arg : BitVec 32) (tag : RespTag), s.config.hdrPrefix = 0b01#2 →
    s.card.gateOpen = true → (s.dispatchAnswer cmd arg).tag = tag.code →
    ∃ t out, exec (.frFrame (commandFrame s.config cmd arg)) s = .next t ∧
      t.result = some (.transaction (.tag tag) out) ∧ out.length = responseLength tag ∧
      t.answers = (s.dispatched cmd arg).answers ∧ t.draws = (s.dispatched cmd arg).draws

/-- R96: a set CRC-error bit (23) stays through gated and ILLEGAL transactions, is exposed in `out[1][7]` by R1 and R1B and
in `out[2][7]` by R6, and is cleared at the end of every transaction with another tag than ILLEGAL. The dispatcher is
taken not to clear it, and the masks to treat bit 23 as R17 does. -/
def Obligations.CrcErrorIsExposedThenCleared : Prop :=
  ∀ (i : Instr) (s t : State) (o : TxOutcome) (out : Bytes), i.isCommand = true →
    s.config.maskClearOnRead.getLsbD 23 = false → s.config.maskClearOnValid.getLsbD 23 = true →
    s.card.cardStatus.getLsbD 23 = true →
    (∀ cmd arg, (s.dispatched cmd arg).card.cardStatus.getLsbD 23 = true) →
    exec i s = .next t → t.result = some (.transaction o out) →
    (o = .gated ∨ o = .tag .illegal → t.card.cardStatus.getLsbD 23 = true) ∧
    (o = .tag .r1 ∨ o = .tag .r1b → ∃ b0 b1 b2 b3 : Byte, out = [b0, b1, b2, b3] ∧ b1.getLsbD 7 = true) ∧
    (o = .tag .r6 → ∃ b0 b1 b2 b3 : Byte, out = [b0, b1, b2, b3] ∧ b2.getLsbD 7 = true) ∧
    (∀ tag, o = .tag tag → tag ≠ .illegal → t.card.cardStatus.getLsbD 23 = false)

/-! ## The Response Encoder -/

/-- R101 and R109: RESP_R0 and RESP_ILLEGAL return no bytes and write nothing. -/
def Obligations.EmptyResponses : Prop :=
  ∀ s : State,
    exec .respR0 s = .next { s with result := some (.bytes []), r7 := none, r16 := none } ∧
    exec .respIllegal s = .next { s with result := some (.bytes []), r7 := none, r16 := none } ∧
    (encode .respR0).op = 0x10#5 ∧ decode (encode .respR0) = .ok .respR0 ∧
    (encode .respIllegal).op = 0x18#5 ∧ decode (encode .respIllegal) = .ok .respIllegal

/-- R102 and R103: RESP_R1 and RESP_R1B return `card_status` big-endian and then clear its clear-on-read bits; a second
one with nothing in between returns the word without them (R40). -/
def Obligations.StatusResponsesReadThenClear : Prop :=
  ∀ s : State,
    let v := s.card.cardStatus
    let t : State := { s with
      card := { s.card with cardStatus := v &&& ~~~s.config.maskClearOnRead },
      result := some (.bytes [v.extractLsb' 24 8, v.extractLsb' 16 8, v.extractLsb' 8 8, v.extractLsb' 0 8]),
      r7 := none, r16 := none }
    exec .respR1 s = .next t ∧ exec .respR1b s = .next t ∧
    exec .respR1 t = .next { t with result := some (.bytes (be32 (v &&& ~~~s.config.maskClearOnRead))) } ∧
    exec .respR1b t = exec .respR1 t ∧
    (encode .respR1).op = 0x11#5 ∧ decode (encode .respR1) = .ok .respR1 ∧
    (encode .respR1b).op = 0x12#5 ∧ decode (encode .respR1b) = .ok .respR1b ∧
    (s.config.maskClearOnRead = specConfig.maskClearOnRead → v = 0xFFFFFFFF#32 → t.card.cardStatus = 0x02C65FD7#32) ∧
    (s.config.maskClearOnRead = specConfig.maskClearOnRead → v = 0x80000920#32 → t.card.cardStatus = 0x00000900#32) ∧
    (s.config.maskClearOnRead = specConfig.maskClearOnRead → ∀ k, k = 23 ∨ k = 22 ∨ (9 ≤ k ∧ k ≤ 12) →
      t.card.cardStatus.getLsbD k = v.getLsbD k)

/-- R104 and R105: RESP_R2_CID and RESP_R2_CSD return the register's 16 bytes in index order and write nothing; of a sealed
register the last byte is the trailer of the bytes before it. -/
def Obligations.RegisterResponses : Prop :=
  ∀ s : State,
    exec .respR2Cid s = .next { s with
      result := some (.bytes (List.ofFn (fun k : Fin 16 => s.card.cid[k]))), r7 := none, r16 := none } ∧
    exec .respR2Csd s = .next { s with
      result := some (.bytes (List.ofFn (fun k : Fin 16 => s.card.csd[k]))), r7 := none, r16 := none } ∧
    (encode .respR2Cid).op = 0x13#5 ∧ decode (encode .respR2Cid) = .ok .respR2Cid ∧
    (encode .respR2Csd).op = 0x14#5 ∧ decode (encode .respR2Csd) = .ok .respR2Csd ∧
    (s.registersSealed → s.card.cid[15] = trailer (crc7 s.config (s.card.cid.toList.take 15)) ∧
      s.card.csd[15] = trailer (crc7 s.config (s.card.csd.toList.take 15))) ∧
    (s.config = specConfig → s.registersSealed → (∀ k : Fin 15, s.card.csd[k] = 0x00#8) → s.card.csd[15] = 0x01#8)

/-- R106: RESP_R3 returns `ocr` big-endian and writes nothing; the first byte carries the power-up-complete bit in bit 7
and the high-capacity bit in bit 6. -/
def Obligations.OcrResponse : Prop :=
  ∀ s : State,
    let v := s.card.ocr
    exec .respR3 s = .next { s with
      result := some (.bytes [v.extractLsb' 24 8, v.extractLsb' 16 8, v.extractLsb' 8 8, v.extractLsb' 0 8]),
      r7 := none, r16 := none } ∧
    (v.extractLsb' 24 8).getLsbD 7 = v.getLsbD 31 ∧ (v.extractLsb' 24 8).getLsbD 6 = v.getLsbD 30 ∧
    (encode .respR3).op = 0x15#5 ∧ decode (encode .respR3) = .ok .respR3 ∧
    be32 0x80FF8000#32 = [0x80, 0xFF, 0x80, 0x00]

/-- R107: RESP_R6 returns `rca` and `status16`, and clears the clear-on-read bits that appear in `status16`. -/
def Obligations.RcaResponse : Prop :=
  ∀ s : State,
    let v := s.card.cardStatus
    let p : BitVec 16 := v.extractLsb' 22 2 ++ v.extractLsb' 19 1 ++ v.extractLsb' 0 13
    let t : State := { s with
      card := { s.card with cardStatus := v &&& ~~~(s.config.maskClearOnRead &&& s.config.r6SrcMask) },
      result := some (.bytes [s.card.rca.extractLsb' 8 8, s.card.rca.extractLsb' 0 8, p.extractLsb' 8 8, p.extractLsb' 0 8]),
      r7 := none, r16 := none }
    exec .respR6 s = .next t ∧
    (encode .respR6).op = 0x16#5 ∧ decode (encode .respR6) = .ok .respR6 ∧
    (s.config.maskClearOnRead = specConfig.maskClearOnRead → s.config.r6SrcMask = specConfig.r6SrcMask →
      t.card.cardStatus = v &&& ~~~((1#32 <<< 19) ||| (1#32 <<< 5) ||| (1#32 <<< 3))) ∧
    (s.config.maskClearOnRead = specConfig.maskClearOnRead → s.config.r6SrcMask = specConfig.r6SrcMask →
      v = 0xFFFFFFFF#32 → s.card.rca = 0x0000#16 →
      t.result = some (.bytes [0x00, 0x00, 0xFF, 0xFF]) ∧ t.card.cardStatus = 0xFFF7FFD7#32) ∧
    (s.config.maskClearOnRead = specConfig.maskClearOnRead → s.config.r6SrcMask = specConfig.r6SrcMask →
      v = 0x00000520#32 → s.card.rca = 0x4567#16 →
      t.result = some (.bytes [0x45, 0x67, 0x05, 0x20]) ∧ t.card.cardStatus = 0x00000500#32)

/-- R108: RESP_R7 returns its pattern big-endian and writes nothing. -/
def Obligations.PatternResponse : Prop :=
  ∀ (p : BitVec 32) (s : State),
    exec (.respR7 p) s = .next { s with
      result := some (.bytes [p.extractLsb' 24 8, p.extractLsb' 16 8, p.extractLsb' 8 8, p.extractLsb' 0 8]),
      r7 := none, r16 := none } ∧
    (encode (.respR7 p)).op = 0x17#5 ∧ decode (encode (.respR7 p)) = .ok (.respR7 p) ∧
    be32 0x00000000#32 = [0x00, 0x00, 0x00, 0x00] ∧ be32 0x000001AA#32 = [0x00, 0x00, 0x01, 0xAA]

/-- R55: `status16` is made of exactly the bits of `R6_SRC_MASK`: two words have the same projection if and only if they
agree on those bits. -/
def Obligations.StatusProjectionIsR6SrcMask : Prop :=
  ∀ v w : BitVec 32, (status16 v = status16 w ↔ v &&& specConfig.r6SrcMask = w &&& specConfig.r6SrcMask) ∧
    status16 v = v.extractLsb' 22 2 ++ v.extractLsb' 19 1 ++ v.extractLsb' 0 13 ∧
    specConfig.r6SrcMask = 0x00C81FFF#32

/-- R53, R56: the length of a transaction's response is known from its tag alone. -/
def Obligations.ResponseLengthFollowsFromTheTag : Prop :=
  ∀ (i : Instr) (s t : State) (tag : RespTag) (out : Bytes), i.isCommand = true → exec i s = .next t →
    t.result = some (.transaction (.tag tag) out) → out.length = responseLength tag

/-! ## Rules about the whole machine -/

/-- R17: the masks of the configuration are the categories C and B of the bit map, they are disjoint, and the CRC-error
bit is bit 23. -/
def Obligations.StatusMasksFollowTheBitMap : Prop :=
  specConfig.maskClearOnRead = categoryMask .C ∧ specConfig.maskClearOnValid = categoryMask .B ∧
  specConfig.maskClearOnRead &&& specConfig.maskClearOnValid = 0#32 ∧
  specConfig.maskClearOnRead = 0xFD39A028#32 ∧ specConfig.maskClearOnValid = 0x00C01E00#32 ∧
  specConfig.stComCrcError = 1#32 <<< 23

/-- R19: what every operation does to `card_status`, and nothing else does anything to it: (a) a framing error, (b) R1 and
R1B, (c) R6, (d) the end of a transaction whose tag is not ILLEGAL. -/
def Obligations.CardStatusChangesOnlyAsListed : Prop :=
  ∀ (i : Instr) (s t : State), exec i s = .next t →
    (i = .respR1 ∨ i = .respR1b → t.card.cardStatus = s.card.cardStatus &&& ~~~s.config.maskClearOnRead) ∧
    (i = .respR6 →
      t.card.cardStatus = s.card.cardStatus &&& ~~~(s.config.maskClearOnRead &&& s.config.r6SrcMask)) ∧
    (i.isCommand = false → i ≠ .respR1 → i ≠ .respR1b → i ≠ .respR6 → t.card.cardStatus = s.card.cardStatus) ∧
    (i.isCommand = true →
      (t.result = some (.transaction .gated []) ∧ t.card.cardStatus = s.card.cardStatus) ∨
      (t.result = some (.transaction (.tag .illegal) []) ∧
        t.card.cardStatus = s.card.cardStatus ||| s.config.stComCrcError) ∨
      (∃ cmd arg tag out, i.request = some (cmd, arg) ∧ t.result = some (.transaction (.tag tag) out) ∧
        let left := (s.dispatched cmd arg).card.cardStatus
        let read := if tag = .r1 ∨ tag = .r1b then left &&& ~~~s.config.maskClearOnRead
          else if tag = .r6 then left &&& ~~~(s.config.maskClearOnRead &&& s.config.r6SrcMask) else left
        t.card.cardStatus = if tag = .illegal then read else read &&& ~~~s.config.maskClearOnValid))

/-- R95: no operation writes `enabled`, `inserted`, `has_medium` or `spi`, the dispatcher's part of it included (R23;
the model's reading of the dispatcher: entry 5). -/
def Obligations.NoOperationWritesTheGateFlags : Prop :=
  ∀ (i : Instr) (s t : State), exec i s = .next t →
    t.card.enabled = s.card.enabled ∧ t.card.inserted = s.card.inserted ∧ t.card.hasMedium = s.card.hasMedium ∧
      t.card.spi = s.card.spi

/-- The frame of every operation that is not a command transaction: only what it returns, and `card_status` for R1, R1B
and R6, changes; R16's "read" fields are only read. -/
def Obligations.OperationsOutsideTransactionsKeepTheRest : Prop :=
  ∀ (i : Instr) (s t : State), i.isCommand = false → exec i s = .next t →
    t = { s with card := { s.card with cardStatus := t.card.cardStatus }, result := t.result, r7 := none, r16 := none } ∧
    t.result ≠ none ∧ (i ≠ .respR1 → i ≠ .respR1b → i ≠ .respR6 → t.card = s.card)

/-- The frame of a command transaction: the card is as it was, but for `card_status`, or as the dispatcher left it, but
for `card_status`; the configuration and the inputs are never touched. -/
def Obligations.CommandTransactionsKeepTheRest : Prop :=
  ∀ (i : Instr) (s t : State), i.isCommand = true → exec i s = .next t →
    t.config = s.config ∧ t.inbox = s.inbox ∧ t.r7 = none ∧ t.r16 = none ∧
    ((t.card = { s.card with cardStatus := t.card.cardStatus } ∧ t.answers = s.answers ∧ t.draws = s.draws) ∨
      ∃ cmd arg, i.request = some (cmd, arg) ∧
        t.card = { (s.dispatched cmd arg).card with cardStatus := t.card.cardStatus } ∧
        t.answers = (s.dispatched cmd arg).answers ∧ t.draws = (s.dispatched cmd arg).draws)

/-- R40: the pure operations read no external field: with any other card they return the same and leave that card. -/
def Obligations.PureOperationsReadNoField : Prop :=
  ∀ (i : Instr) (s : State) (c : Card), i.isPure = true →
    exec i (s.setCard c) = mapNext (fun t => t.setCard c) (exec i s)

/-- R24: `spi` changes nothing any operation returns or writes, given the dispatcher's answer. -/
def Obligations.SpiHasNoEffect : Prop :=
  ∀ (i : Instr) (s : State) (b : Bool), (i.isCommand = true → s.answers ≠ []) →
    exec i (s.setCard { s.card with spi := b }) =
      mapNext (fun t => t.setCard { t.card with spi := b }) (exec i s)

/-- R83: given the dispatcher's answer, no operation reads the dispatcher's fields, `expecting_acmd` among them: with
other values of them it returns the same and leaves the same, those fields aside. -/
def Obligations.FramerIgnoresExpectingAcmd : Prop :=
  ∀ (i : Instr) (s : State) (d e : DispFields), (i.isCommand = true → s.answers ≠ []) →
    mapNext (fun t => t.setCard (t.card.setDisp e)) (exec i (s.setCard (s.card.setDisp d))) =
      mapNext (fun t => t.setCard (t.card.setDisp e)) (exec i s)

/-- R39: an operation is refused as BadLength exactly when an operand length is outside R32. -/
def Obligations.BadLengthIsExactlyIllFormed : Prop :=
  ∀ (i : Instr) (s : State), exec i s = .refused .badLength ↔ i.wellFormed s.config = false

/-- R121, R124: no operation faults, and the only refusals of a decoded operation are BadLength and BadDispatcherTag. -/
def Obligations.OperationsNeverFault : Prop :=
  ∀ (i : Instr) (s : State),
    (∀ f, exec i s ≠ .fault f) ∧ (∀ r, exec i s = .refused r → r = .badLength ∨ (r = .badDispatcherTag ∧ i.isCommand = true))

/-- Every well-formed operation completes: those that are no command transaction in every state, a command transaction in
every state whose dispatcher answers one of the nine tags. -/
def Obligations.EveryWellFormedOperationCompletes : Prop :=
  ∀ (i : Instr) (s : State), i.wellFormed s.config = true →
    (i.isCommand = true → ∀ cmd arg, (s.dispatchAnswer cmd arg).tag.toNat < 9) →
    ∃ t r, exec i s = .next t ∧ t.result = some r

/-- R6: no step changes a parameter. -/
def Obligations.ParametersNeverChange : Prop :=
  ∀ s t : State, step s = .next t → t.config = s.config

/-- The invariant every step keeps: the register images are sealed (R22, R73) and the transient registers hold no value
between transactions (R14, R28). That a dispatcher changes an image only by a reset is the model's reading (entry 5). -/
def Obligations.EveryStepKeepsRegistersSealed : Prop :=
  ∀ s t : State, s.wellFormed → step s = .next t → t.wellFormed

/-- The invariant holds right after reset, and the registers the spec gives a reset value have it (R28, R142): `rca` is 0
and `ocr[31]` is clear. -/
def Obligations.ResetStateIsSealed : Prop :=
  State.reset.wellFormed ∧ State.reset.card.rca = 0#16 ∧ State.reset.card.ocr.getLsbD 31 = false

/-- R45: `cid` and `csd` are regenerated only at the card's reset: a step leaves both, or replaces both by the sealed images
of a reset, which the next input or the dispatcher's answer makes (its form: entries 2, 5). -/
def Obligations.ImagesChangeOnlyAtReset : Prop :=
  ∀ s t : State, step s = .next t → (t.card.cid = s.card.cid ∧ t.card.csd = s.card.csd) ∨
    ∃ d : CardResetData,
      ((∃ rest, s.inbox = .cardReset d :: rest) ∨ ∃ cmd arg, (s.dispatchAnswer cmd arg).reset = some d) ∧
      t.card.cid = sealRegister s.config d.cid ∧ t.card.csd = sealRegister s.config d.csd

/-- R142: the card's reset. `capacity` in bytes; the images are those the Register Model supplies. A dispatcher answer that
resets the card (GO_IDLE_STATE) leaves the same card. The event and the answer are the model's form (entries 2, 4, 12). -/
def Obligations.CardResetSetsItsFields : Prop :=
  ∀ (s : State) (d : CardResetData) (rest : List Event), s.inbox = .cardReset d :: rest →
    ∃ t, step s = .next t ∧ t.card.rca = 0#16 ∧ t.card.ocr.getLsbD 31 = false ∧
      t.card.ocr.getLsbD 30 = decide (0x40000000 < d.capacity) ∧
      t.card.ocr.extractLsb' 0 30 = s.config.ocrResetLow ∧
      t.card.cardStatus = s.config.cardStatusReset ∧
      t.card.cid.toList = regSeal s.config d.cid.toList ∧ t.card.csd.toList = regSeal s.config d.csd.toList ∧
      t.card.scr.toList = (if s.config.scrSealed then regSeal s.config d.scr.toList else d.scr.toList) ∧
      t.card.enabled = s.card.enabled ∧ t.card.inserted = s.card.inserted ∧ t.card.hasMedium = s.card.hasMedium ∧
      t.card.spi = s.card.spi ∧
      (∀ (cmd : BitVec 6) (arg : BitVec 32) (a : DispatcherAnswer), s.answers = [a] →
        a = { a with reset := some d, cardStatus := none, rca := none, ocrLow := none, assertPowerUp := false, disp := none } →
        (s.dispatched cmd arg).card = t.card)

/-- R145: the Power-Up Sequencer sets `ocr[31]` between transactions, faults when it is set already, and is refused inside
a transaction. The inputs are the model's form (entries 2, 8, 16). -/
def Obligations.PowerUpFiresBetweenTransactions : Prop :=
  ∀ (s : State) (rest : List Event),
    (s.inbox = .powerUpFires :: rest → s.card.ocr.getLsbD 31 = false → ∃ t, step s = .next t ∧
      t.card = { s.card with ocr := t.card.ocr, disp := { s.card.disp with powerUpPending := false } } ∧
      t.card.ocr.getLsbD 31 = true ∧ (∀ k, k < 31 → t.card.ocr.getLsbD k = s.card.ocr.getLsbD k)) ∧
    (s.inbox = .powerUpFires :: rest → s.card.ocr.getLsbD 31 = true → step s = .fault .powerUpTwice) ∧
    (∀ c, s.inbox = .overlappedCall c .powerUpFires :: rest → step s = .refused .hostOverlap)

/-- R144's overlap: a call that another call, a byte call or the sequencer overlaps is refused (R124; the form of the input: entry 8). -/
def Obligations.OverlappedCallsAreRefused : Prop :=
  ∀ (s : State) (rest : List Event) (c : PortCall) (x : Intrusion),
    s.inbox = .overlappedCall c x :: rest → step s = .refused .hostOverlap

/-- R146: the power-up bit goes from 0 to 1 at most once between resets: once it is 1, every step that resets nothing leaves
it 1. A step resets by the next input, or by the answer of the dispatcher it calls; a step that calls none uses no answer up.
Such a step leaves all of `ocr` as it is unless the dispatcher it calls writes bits 30:0. That a dispatcher clears the bit
only by a reset, and that the Data Transfer Engine writes no `ocr`, are the model's readings (entries 5, 17). -/
def Obligations.PowerUpBitIsMonotoneBetweenResets : Prop :=
  ∀ s t : State, step s = .next t → s.card.ocr.getLsbD 31 = true →
    (∀ d rest, s.inbox ≠ .cardReset d :: rest) →
    let callsNone := t.answers = s.answers ∧ t.draws = s.draws
    (callsNone ∨ ∀ cmd arg, (s.dispatchAnswer cmd arg).reset = none) →
    t.card.ocr.getLsbD 31 = true ∧
    ((callsNone ∨ ∀ cmd arg, (s.dispatchAnswer cmd arg).ocrLow = none) → t.card.ocr = s.card.ocr)
end

