-- ==== Sys2Proof/Laws/Crc.lean ====
section
/-! SUPPORT. The small facts about the CRC computers, the byte orders and the formats they close. -/

namespace Sys2Proof.Machine

@[simp] theorem be16_length (v : BitVec 16) : (be16 v).length = 2 := rfl

@[simp] theorem be32_length (v : BitVec 32) : (be32 v).length = 4 := rfl

@[simp] theorem header_length (cfg : Config) (cmd : BitVec 6) (arg : BitVec 32) : (header cfg cmd arg).length = 5 := rfl

@[simp] theorem commandFrame_length (cfg : Config) (cmd : BitVec 6) (arg : BitVec 32) :
    (commandFrame cfg cmd arg).length = 6 := rfl

/-- A byte gives eight bits to a bit-serial computer, in either order. -/
@[simp] theorem byteBits_length (o : BitOrder) (b : Byte) : (byteBits o b).length = 8 := by cases o <;> rfl

@[simp] theorem crc7_nil (cfg : Config) : crc7 cfg [] = cfg.crc7Init := rfl

@[simp] theorem crc16_nil (cfg : Config) : crc16 cfg [] = cfg.crc16Init := rfl

/-- One more byte advances the register by its eight bits. -/
theorem crc7_concat (cfg : Config) (bs : Bytes) (b : Byte) : crc7 cfg (bs ++ [b]) = crc7Byte cfg (crc7 cfg bs) b := by
  simp [crc7]

theorem crc16_concat (cfg : Config) (bs : Bytes) (b : Byte) :
    crc16 cfg (bs ++ [b]) = crc16Byte cfg (crc16 cfg bs) b := by
  simp [crc16]

@[simp] theorem dataBlock_length (cfg : Config) (blk : Bytes) : (dataBlock cfg blk).length = blk.length + 2 := by
  simp [dataBlock]

@[simp] theorem regSeal_length (cfg : Config) (img : Bytes) : (regSeal cfg img).length = img.length := by
  simp [regSeal]

/-- A register that has just been sealed is sealed. -/
@[simp] theorem isSealed_sealRegister {n : Nat} (cfg : Config) (img : Vector Byte (n + 1)) :
    isSealed cfg (sealRegister cfg img) = true := by
  simp [isSealed, sealRegister, Vector.toList_set, List.take_set_of_le]

/-- Sealing a register is REG_SEAL on its bytes. -/
theorem toList_sealRegister {n : Nat} (cfg : Config) (img : Vector Byte (n + 1)) :
    (sealRegister cfg img).toList = regSeal cfg img.toList := by
  simp [sealRegister, regSeal, Vector.toList_set]

end Sys2Proof.Machine
end

