-- ==== Sys2Proof/Laws/Decode.lean ====
section
/-! SUPPORT. The small facts about the operation port's codes and the response tags' codes. -/

namespace Sys2Proof

/-- The code of a tag stands for that tag (30_encoding.md R53). -/
@[simp] theorem RespTag.ofCode_code (t : RespTag) : RespTag.ofCode t.code = some t := by cases t <;> rfl

/-- A code stands for a tag exactly when it is below 9 (R53, R110). -/
theorem RespTag.ofCode_isSome (code : BitVec 4) : (RespTag.ofCode code).isSome = decide (code.toNat < 9) := by
  revert code; decide

/-- A code stands for no other tag than the one whose code it is. -/
theorem RespTag.code_of_ofCode {code : BitVec 4} {t : RespTag} (h : RespTag.ofCode code = some t) : t.code = code := by
  revert code t; decide

/-- A word of the opcode table is a call with that code, six zero bytes and every other operand zero. -/
@[simp] theorem PortCall.ofTableWord_op (nbits w : Nat) :
    (PortCall.ofTableWord nbits w).op = BitVec.ofNat 5 (w % 2 ^ nbits) := rfl

end Sys2Proof
end

