-- ==== Sys2Proof/Laws/State.lean ====
section
/-! SUPPORT. What each update of the state and of the card leaves in each field, one lemma per field, so that no later
proof unfolds a record update. -/

namespace Sys2Proof.Machine

@[simp] theorem State.setCard_config (s : State) (c : Card) : (s.setCard c).config = s.config := rfl
@[simp] theorem State.setCard_card (s : State) (c : Card) : (s.setCard c).card = c := rfl
@[simp] theorem State.setCard_r7 (s : State) (c : Card) : (s.setCard c).r7 = s.r7 := rfl
@[simp] theorem State.setCard_r16 (s : State) (c : Card) : (s.setCard c).r16 = s.r16 := rfl
@[simp] theorem State.setCard_inbox (s : State) (c : Card) : (s.setCard c).inbox = s.inbox := rfl
@[simp] theorem State.setCard_answers (s : State) (c : Card) : (s.setCard c).answers = s.answers := rfl
@[simp] theorem State.setCard_draws (s : State) (c : Card) : (s.setCard c).draws = s.draws := rfl
@[simp] theorem State.setCard_result (s : State) (c : Card) : (s.setCard c).result = s.result := rfl

@[simp] theorem State.finish_config (s : State) (r : PortResult) : (s.finish r).config = s.config := rfl
@[simp] theorem State.finish_card (s : State) (r : PortResult) : (s.finish r).card = s.card := rfl
@[simp] theorem State.finish_r7 (s : State) (r : PortResult) : (s.finish r).r7 = none := rfl
@[simp] theorem State.finish_r16 (s : State) (r : PortResult) : (s.finish r).r16 = none := rfl
@[simp] theorem State.finish_inbox (s : State) (r : PortResult) : (s.finish r).inbox = s.inbox := rfl
@[simp] theorem State.finish_answers (s : State) (r : PortResult) : (s.finish r).answers = s.answers := rfl
@[simp] theorem State.finish_draws (s : State) (r : PortResult) : (s.finish r).draws = s.draws := rfl
@[simp] theorem State.finish_result (s : State) (r : PortResult) : (s.finish r).result = some r := rfl

@[simp] theorem State.takeInput_config (s : State) (rest : List Event) : (s.takeInput rest).config = s.config := rfl
@[simp] theorem State.takeInput_card (s : State) (rest : List Event) : (s.takeInput rest).card = s.card := rfl
@[simp] theorem State.takeInput_r7 (s : State) (rest : List Event) : (s.takeInput rest).r7 = s.r7 := rfl
@[simp] theorem State.takeInput_r16 (s : State) (rest : List Event) : (s.takeInput rest).r16 = s.r16 := rfl
@[simp] theorem State.takeInput_inbox (s : State) (rest : List Event) : (s.takeInput rest).inbox = rest := rfl
@[simp] theorem State.takeInput_answers (s : State) (rest : List Event) : (s.takeInput rest).answers = s.answers := rfl
@[simp] theorem State.takeInput_draws (s : State) (rest : List Event) : (s.takeInput rest).draws = s.draws := rfl
@[simp] theorem State.takeInput_result (s : State) (rest : List Event) : (s.takeInput rest).result = s.result := rfl

@[simp] theorem State.pushInput_config (s : State) (e : Event) : (s.pushInput e).config = s.config := rfl
@[simp] theorem State.pushInput_card (s : State) (e : Event) : (s.pushInput e).card = s.card := rfl
@[simp] theorem State.pushInput_r7 (s : State) (e : Event) : (s.pushInput e).r7 = s.r7 := rfl
@[simp] theorem State.pushInput_r16 (s : State) (e : Event) : (s.pushInput e).r16 = s.r16 := rfl
@[simp] theorem State.pushInput_inbox (s : State) (e : Event) : (s.pushInput e).inbox = e :: s.inbox := rfl
@[simp] theorem State.pushInput_answers (s : State) (e : Event) : (s.pushInput e).answers = s.answers := rfl
@[simp] theorem State.pushInput_draws (s : State) (e : Event) : (s.pushInput e).draws = s.draws := rfl
@[simp] theorem State.pushInput_result (s : State) (e : Event) : (s.pushInput e).result = s.result := rfl

@[simp] theorem State.useAnswer_config (s : State) : s.useAnswer.config = s.config := by
  unfold State.useAnswer; split <;> rfl
@[simp] theorem State.useAnswer_card (s : State) : s.useAnswer.card = s.card := by
  unfold State.useAnswer; split <;> rfl
@[simp] theorem State.useAnswer_r7 (s : State) : s.useAnswer.r7 = s.r7 := by
  unfold State.useAnswer; split <;> rfl
@[simp] theorem State.useAnswer_r16 (s : State) : s.useAnswer.r16 = s.r16 := by
  unfold State.useAnswer; split <;> rfl
@[simp] theorem State.useAnswer_inbox (s : State) : s.useAnswer.inbox = s.inbox := by
  unfold State.useAnswer; split <;> rfl
@[simp] theorem State.useAnswer_result (s : State) : s.useAnswer.result = s.result := by
  unfold State.useAnswer; split <;> rfl

@[simp] theorem State.dispatched_config (s : State) (cmd : BitVec 6) (arg : BitVec 32) :
    (s.dispatched cmd arg).config = s.config := by simp [State.dispatched]
@[simp] theorem State.dispatched_r7 (s : State) (cmd : BitVec 6) (arg : BitVec 32) :
    (s.dispatched cmd arg).r7 = s.r7 := by simp [State.dispatched]
@[simp] theorem State.dispatched_r16 (s : State) (cmd : BitVec 6) (arg : BitVec 32) :
    (s.dispatched cmd arg).r16 = s.r16 := by simp [State.dispatched]
@[simp] theorem State.dispatched_inbox (s : State) (cmd : BitVec 6) (arg : BitVec 32) :
    (s.dispatched cmd arg).inbox = s.inbox := by simp [State.dispatched]
@[simp] theorem State.dispatched_result (s : State) (cmd : BitVec 6) (arg : BitVec 32) :
    (s.dispatched cmd arg).result = s.result := by simp [State.dispatched]
@[simp] theorem State.dispatched_card (s : State) (cmd : BitVec 6) (arg : BitVec 32) :
    (s.dispatched cmd arg).card = s.card.dispatcherWrites s.config (s.dispatchAnswer cmd arg) := rfl

@[simp] theorem Card.setStatus_cardStatus (c : Card) (v : BitVec 32) : (c.setStatus v).cardStatus = v := rfl
@[simp] theorem Card.setStatus_ocr (c : Card) (v : BitVec 32) : (c.setStatus v).ocr = c.ocr := rfl
@[simp] theorem Card.setStatus_rca (c : Card) (v : BitVec 32) : (c.setStatus v).rca = c.rca := rfl
@[simp] theorem Card.setStatus_cid (c : Card) (v : BitVec 32) : (c.setStatus v).cid = c.cid := rfl
@[simp] theorem Card.setStatus_csd (c : Card) (v : BitVec 32) : (c.setStatus v).csd = c.csd := rfl
@[simp] theorem Card.setStatus_scr (c : Card) (v : BitVec 32) : (c.setStatus v).scr = c.scr := rfl
@[simp] theorem Card.setStatus_enabled (c : Card) (v : BitVec 32) : (c.setStatus v).enabled = c.enabled := rfl
@[simp] theorem Card.setStatus_inserted (c : Card) (v : BitVec 32) : (c.setStatus v).inserted = c.inserted := rfl
@[simp] theorem Card.setStatus_hasMedium (c : Card) (v : BitVec 32) : (c.setStatus v).hasMedium = c.hasMedium := rfl
@[simp] theorem Card.setStatus_spi (c : Card) (v : BitVec 32) : (c.setStatus v).spi = c.spi := rfl
@[simp] theorem Card.setStatus_disp (c : Card) (v : BitVec 32) : (c.setStatus v).disp = c.disp := rfl

@[simp] theorem Card.setRca_cardStatus (c : Card) (v : BitVec 16) : (c.setRca v).cardStatus = c.cardStatus := rfl
@[simp] theorem Card.setRca_ocr (c : Card) (v : BitVec 16) : (c.setRca v).ocr = c.ocr := rfl
@[simp] theorem Card.setRca_rca (c : Card) (v : BitVec 16) : (c.setRca v).rca = v := rfl
@[simp] theorem Card.setRca_cid (c : Card) (v : BitVec 16) : (c.setRca v).cid = c.cid := rfl
@[simp] theorem Card.setRca_csd (c : Card) (v : BitVec 16) : (c.setRca v).csd = c.csd := rfl
@[simp] theorem Card.setRca_scr (c : Card) (v : BitVec 16) : (c.setRca v).scr = c.scr := rfl
@[simp] theorem Card.setRca_enabled (c : Card) (v : BitVec 16) : (c.setRca v).enabled = c.enabled := rfl
@[simp] theorem Card.setRca_inserted (c : Card) (v : BitVec 16) : (c.setRca v).inserted = c.inserted := rfl
@[simp] theorem Card.setRca_hasMedium (c : Card) (v : BitVec 16) : (c.setRca v).hasMedium = c.hasMedium := rfl
@[simp] theorem Card.setRca_spi (c : Card) (v : BitVec 16) : (c.setRca v).spi = c.spi := rfl
@[simp] theorem Card.setRca_disp (c : Card) (v : BitVec 16) : (c.setRca v).disp = c.disp := rfl

@[simp] theorem Card.setDisp_cardStatus (c : Card) (d : DispFields) : (c.setDisp d).cardStatus = c.cardStatus := rfl
@[simp] theorem Card.setDisp_ocr (c : Card) (d : DispFields) : (c.setDisp d).ocr = c.ocr := rfl
@[simp] theorem Card.setDisp_rca (c : Card) (d : DispFields) : (c.setDisp d).rca = c.rca := rfl
@[simp] theorem Card.setDisp_cid (c : Card) (d : DispFields) : (c.setDisp d).cid = c.cid := rfl
@[simp] theorem Card.setDisp_csd (c : Card) (d : DispFields) : (c.setDisp d).csd = c.csd := rfl
@[simp] theorem Card.setDisp_scr (c : Card) (d : DispFields) : (c.setDisp d).scr = c.scr := rfl
@[simp] theorem Card.setDisp_enabled (c : Card) (d : DispFields) : (c.setDisp d).enabled = c.enabled := rfl
@[simp] theorem Card.setDisp_inserted (c : Card) (d : DispFields) : (c.setDisp d).inserted = c.inserted := rfl
@[simp] theorem Card.setDisp_hasMedium (c : Card) (d : DispFields) : (c.setDisp d).hasMedium = c.hasMedium := rfl
@[simp] theorem Card.setDisp_spi (c : Card) (d : DispFields) : (c.setDisp d).spi = c.spi := rfl
@[simp] theorem Card.setDisp_disp (c : Card) (d : DispFields) : (c.setDisp d).disp = d := rfl

@[simp] theorem Card.assertPowerUp_cardStatus (c : Card) : (c.assertPowerUp).cardStatus = c.cardStatus := rfl
@[simp] theorem Card.assertPowerUp_ocr (c : Card) : (c.assertPowerUp).ocr = 1#1 ++ c.ocr.extractLsb' 0 31 := rfl
@[simp] theorem Card.assertPowerUp_rca (c : Card) : (c.assertPowerUp).rca = c.rca := rfl
@[simp] theorem Card.assertPowerUp_cid (c : Card) : (c.assertPowerUp).cid = c.cid := rfl
@[simp] theorem Card.assertPowerUp_csd (c : Card) : (c.assertPowerUp).csd = c.csd := rfl
@[simp] theorem Card.assertPowerUp_scr (c : Card) : (c.assertPowerUp).scr = c.scr := rfl
@[simp] theorem Card.assertPowerUp_enabled (c : Card) : (c.assertPowerUp).enabled = c.enabled := rfl
@[simp] theorem Card.assertPowerUp_inserted (c : Card) : (c.assertPowerUp).inserted = c.inserted := rfl
@[simp] theorem Card.assertPowerUp_hasMedium (c : Card) : (c.assertPowerUp).hasMedium = c.hasMedium := rfl
@[simp] theorem Card.assertPowerUp_spi (c : Card) : (c.assertPowerUp).spi = c.spi := rfl
@[simp] theorem Card.assertPowerUp_disp (c : Card) : (c.assertPowerUp).disp = c.disp := rfl

@[simp] theorem Card.setOcrLow_cardStatus (c : Card) (v : BitVec 31) : (c.setOcrLow v).cardStatus = c.cardStatus := rfl
@[simp] theorem Card.setOcrLow_ocr (c : Card) (v : BitVec 31) : (c.setOcrLow v).ocr = c.ocr.extractLsb' 31 1 ++ v := rfl
@[simp] theorem Card.setOcrLow_rca (c : Card) (v : BitVec 31) : (c.setOcrLow v).rca = c.rca := rfl
@[simp] theorem Card.setOcrLow_cid (c : Card) (v : BitVec 31) : (c.setOcrLow v).cid = c.cid := rfl
@[simp] theorem Card.setOcrLow_csd (c : Card) (v : BitVec 31) : (c.setOcrLow v).csd = c.csd := rfl
@[simp] theorem Card.setOcrLow_scr (c : Card) (v : BitVec 31) : (c.setOcrLow v).scr = c.scr := rfl
@[simp] theorem Card.setOcrLow_enabled (c : Card) (v : BitVec 31) : (c.setOcrLow v).enabled = c.enabled := rfl
@[simp] theorem Card.setOcrLow_inserted (c : Card) (v : BitVec 31) : (c.setOcrLow v).inserted = c.inserted := rfl
@[simp] theorem Card.setOcrLow_hasMedium (c : Card) (v : BitVec 31) : (c.setOcrLow v).hasMedium = c.hasMedium := rfl
@[simp] theorem Card.setOcrLow_spi (c : Card) (v : BitVec 31) : (c.setOcrLow v).spi = c.spi := rfl
@[simp] theorem Card.setOcrLow_disp (c : Card) (v : BitVec 31) : (c.setOcrLow v).disp = c.disp := rfl

@[simp] theorem Card.reset_cardStatus (c : Card) (cfg : Config) (d : CardResetData) :
    (c.reset cfg d).cardStatus = cfg.cardStatusReset := rfl
@[simp] theorem Card.reset_ocr (c : Card) (cfg : Config) (d : CardResetData) :
    (c.reset cfg d).ocr = ocrAfterReset cfg d.capacity := rfl
@[simp] theorem Card.reset_rca (c : Card) (cfg : Config) (d : CardResetData) :
    (c.reset cfg d).rca = 0#16 := rfl
@[simp] theorem Card.reset_cid (c : Card) (cfg : Config) (d : CardResetData) :
    (c.reset cfg d).cid = sealRegister cfg d.cid := rfl
@[simp] theorem Card.reset_csd (c : Card) (cfg : Config) (d : CardResetData) :
    (c.reset cfg d).csd = sealRegister cfg d.csd := rfl
@[simp] theorem Card.reset_scr (c : Card) (cfg : Config) (d : CardResetData) :
    (c.reset cfg d).scr = if cfg.scrSealed then sealRegister cfg d.scr else d.scr := rfl
@[simp] theorem Card.reset_enabled (c : Card) (cfg : Config) (d : CardResetData) :
    (c.reset cfg d).enabled = c.enabled := rfl
@[simp] theorem Card.reset_inserted (c : Card) (cfg : Config) (d : CardResetData) :
    (c.reset cfg d).inserted = c.inserted := rfl
@[simp] theorem Card.reset_hasMedium (c : Card) (cfg : Config) (d : CardResetData) :
    (c.reset cfg d).hasMedium = c.hasMedium := rfl
@[simp] theorem Card.reset_spi (c : Card) (cfg : Config) (d : CardResetData) :
    (c.reset cfg d).spi = c.spi := rfl
@[simp] theorem Card.reset_disp (c : Card) (cfg : Config) (d : CardResetData) :
    (c.reset cfg d).disp = d.disp := rfl

end Sys2Proof.Machine
end

