-- ==== Sys2Proof/Laws/Ops.lean ====
section
/-! SUPPORT. What each shared operation over the state can do, said once: the inversion lemmas that proofs about the
operations cite. -/

namespace Sys2Proof.Machine

/-- An encoding writes no field of the card but `card_status`. -/
theorem respEncode_card (cfg : Config) (tag : RespTag) (p : BitVec 32) (c : Card) :
    ∃ v, (respEncode cfg tag p c).card = c.setStatus v := by
  cases tag <;> exact ⟨_, rfl⟩

/-- Step 8's clear writes no field of the card but `card_status`. -/
theorem Card.afterTag_eq (cfg : Config) (tag : RespTag) (c : Card) :
    c.afterTag cfg tag = c.setStatus (if tag = .illegal then c.cardStatus else clearOnValid cfg c.cardStatus) := by
  cases tag <;> rfl

/-- The dispatcher writes neither a gate flag nor `spi` (10_state.md R23, R24). -/
theorem Card.dispatcherWrites_flags (cfg : Config) (a : DispatcherAnswer) (c : Card) :
    (c.dispatcherWrites cfg a).enabled = c.enabled ∧ (c.dispatcherWrites cfg a).inserted = c.inserted ∧
      (c.dispatcherWrites cfg a).hasMedium = c.hasMedium ∧ (c.dispatcherWrites cfg a).spi = c.spi := by
  unfold Card.dispatcherWrites
  cases a.reset <;> cases a.cardStatus <;> cases a.rca <;> cases a.ocrLow <;> cases a.disp <;>
    cases a.assertPowerUp <;> simp

/-- The dispatcher changes a register image only by the card's reset (20_memory.md R45). -/
theorem Card.dispatcherWrites_images (cfg : Config) (a : DispatcherAnswer) (c : Card) :
    (c.dispatcherWrites cfg a).cid = (match a.reset with | some d => (c.reset cfg d).cid | none => c.cid) ∧
      (c.dispatcherWrites cfg a).csd = (match a.reset with | some d => (c.reset cfg d).csd | none => c.csd) ∧
      (c.dispatcherWrites cfg a).scr = (match a.reset with | some d => (c.reset cfg d).scr | none => c.scr) := by
  unfold Card.dispatcherWrites
  cases a.reset <;> cases a.cardStatus <;> cases a.rca <;> cases a.ocrLow <;> cases a.disp <;>
    cases a.assertPowerUp <;> simp

/-- What a dispatcher answer leaves in `ocr`: the power-up bit is set by `assertPowerUp` and cleared by a reset only
(70_reset_and_hazards.md R146); the other bits are written, reset or kept. -/
theorem Card.dispatcherWrites_ocr (cfg : Config) (a : DispatcherAnswer) (c : Card) :
    let left := (match a.reset with | some d => c.reset cfg d | none => c).ocr
    (c.dispatcherWrites cfg a).ocr =
      (if a.assertPowerUp then 1#1 else left.extractLsb' 31 1) ++ a.ocrLow.getD (left.extractLsb' 0 31) := by
  have split (x : BitVec 32) : x.extractLsb' 31 1 ++ x.extractLsb' 0 31 = x := by
    ext k hk; grind
  have low (h : BitVec 1) (v : BitVec 31) : (h ++ v).extractLsb' 0 31 = v := by
    ext k hk; grind
  unfold Card.dispatcherWrites
  cases a.reset <;> cases a.cardStatus <;> cases a.rca <;> cases a.ocrLow <;> cases a.disp <;>
    cases a.assertPowerUp <;> simp [split, low]

/-- A gate either lets the transaction go on or ends it with GATED. -/
theorem State.gated_cases (s : State) (a : Answer) :
    (s.card.gateOpen = true ∧ s.gated a = a) ∨
      (s.card.gateOpen = false ∧ s.gated a = .next (s.finish (.transaction .gated []))) := by
  unfold State.gated State.returns
  cases s.card.gateOpen <;> simp

/-- If steps 3 to 8 answer a next state, the dispatcher answered one of the nine tags, and the state is that of step 8
with this tag. -/
theorem State.dispatchAndEncode_next {s t : State} {cmd : BitVec 6} {arg : BitVec 32}
    (h : s.dispatchAndEncode cmd arg = .next t) :
    ∃ tag, RespTag.ofCode (s.dispatchAnswer cmd arg).tag = some tag ∧
      (s.dispatched cmd arg).stepEight tag (s.dispatchAnswer cmd arg).pattern = .next t := by
  unfold State.dispatchAndEncode at h
  split at h
  · rename_i tag htag
    exact ⟨tag, htag, h⟩
  · cases h

/-- The check of step 2 either ends the transaction as a framing error or lets it go on to the dispatcher. -/
theorem State.checkAndDispatch_cases (s : State) (cmd : BitVec 6) (arg : BitVec 32) (crc : BitVec 7) :
    (s.config.checkCmdCrc = true ∧ crcMatches s.config cmd arg crc = false ∧
        s.checkAndDispatch cmd arg crc = s.framingError) ∨
      ((s.config.checkCmdCrc = false ∨ crcMatches s.config cmd arg crc = true) ∧
        s.checkAndDispatch cmd arg crc = s.dispatchAndEncode cmd arg) := by
  unfold State.checkAndDispatch
  cases s.config.checkCmdCrc <;> cases crcMatches s.config cmd arg crc <;> simp

/-- A frame splits into fields exactly when it has six bytes (30_encoding.md R50, 20_memory.md R39). -/
theorem splitFrame_isSome (frame : Bytes) : (splitFrame frame).isSome = decide (frame.length = 6) := by
  rcases frame with _ | ⟨_, _ | ⟨_, _ | ⟨_, _ | ⟨_, _ | ⟨_, _ | ⟨_, _ | ⟨_, _⟩⟩⟩⟩⟩⟩⟩ <;> simp [splitFrame]

end Sys2Proof.Machine
end

