-- ==== Sys2Proof/Laws/PerInstr.lean ====
section
/-! SUPPORT. Facts about the operations as syntax, one lemma per constructor: the encoder never uses a reserved
operation code (30_encoding.md R60). -/

namespace Sys2Proof.Laws.NotReserved

/-- The code of the operation is one of the eighteen of rule R59. -/
def Statement (i : Instr) : Prop := (encode i).op.toNat < 0x09 ∨ (0x10 ≤ (encode i).op.toNat ∧ (encode i).op.toNat < 0x19)

theorem crc7 (bs : Bytes) : Statement (.crc7 bs) :=
  .inl (by decide : (0x00#5).toNat < 0x09)
theorem crc16 (bs : Bytes) : Statement (.crc16 bs) :=
  .inl (by decide : (0x01#5).toNat < 0x09)
theorem regSeal (img : Bytes) : Statement (.regSeal img) :=
  .inl (by decide : (0x02#5).toNat < 0x09)
theorem dataBlockEncode (blk : Bytes) : Statement (.dataBlockEncode blk) :=
  .inl (by decide : (0x03#5).toNat < 0x09)
theorem cmdEncode (cmd : BitVec 6) (arg : BitVec 32) : Statement (.cmdEncode cmd arg) :=
  .inl (by decide : (0x04#5).toNat < 0x09)
theorem cmdDecode (frame : Bytes) : Statement (.cmdDecode frame) :=
  .inl (by decide : (0x05#5).toNat < 0x09)
theorem cmdCheck (cmd : BitVec 6) (arg : BitVec 32) (crc : BitVec 7) : Statement (.cmdCheck cmd arg crc) :=
  .inl (by decide : (0x06#5).toNat < 0x09)
theorem frCommand (cmd : BitVec 6) (arg : BitVec 32) (crc : BitVec 7) : Statement (.frCommand cmd arg crc) :=
  .inl (by decide : (0x07#5).toNat < 0x09)
theorem frFrame (frame : Bytes) : Statement (.frFrame frame) :=
  .inl (by decide : (0x08#5).toNat < 0x09)
theorem respR0 : Statement .respR0 :=
  .inr (by decide : 0x10 ≤ (0x10#5).toNat ∧ (0x10#5).toNat < 0x19)
theorem respR1 : Statement .respR1 :=
  .inr (by decide : 0x10 ≤ (0x11#5).toNat ∧ (0x11#5).toNat < 0x19)
theorem respR1b : Statement .respR1b :=
  .inr (by decide : 0x10 ≤ (0x12#5).toNat ∧ (0x12#5).toNat < 0x19)
theorem respR2Cid : Statement .respR2Cid :=
  .inr (by decide : 0x10 ≤ (0x13#5).toNat ∧ (0x13#5).toNat < 0x19)
theorem respR2Csd : Statement .respR2Csd :=
  .inr (by decide : 0x10 ≤ (0x14#5).toNat ∧ (0x14#5).toNat < 0x19)
theorem respR3 : Statement .respR3 :=
  .inr (by decide : 0x10 ≤ (0x15#5).toNat ∧ (0x15#5).toNat < 0x19)
theorem respR6 : Statement .respR6 :=
  .inr (by decide : 0x10 ≤ (0x16#5).toNat ∧ (0x16#5).toNat < 0x19)
theorem respR7 (pattern : BitVec 32) : Statement (.respR7 pattern) :=
  .inr (by decide : 0x10 ≤ (0x17#5).toNat ∧ (0x17#5).toNat < 0x19)
theorem respIllegal : Statement .respIllegal :=
  .inr (by decide : 0x10 ≤ (0x18#5).toNat ∧ (0x18#5).toNat < 0x19)

end Sys2Proof.Laws.NotReserved
end

