-- ==== Sys2Proof/Tests/Slice0.lean ====
section
/-! SUPPORT. The model's own tests. Expected values come from the spec: the codes from 30_encoding.md R59, the vectors from
95_test_vectors.md and the rules' own examples. Then the witnesses: for every statement with hypotheses, states and operands
that meet them. -/

namespace Sys2Proof.Tests

open Sys2Proof Sys2Proof.Machine

set_option Elab.async false

/-! ## Helpers -/

/-- The state an answer goes on with. -/
def nextOf : Answer → Option State
  | .next t => some t
  | .fault _ => none
  | .refused _ => none

/-- What an answer returns and the status word it leaves. -/
def seen (a : Answer) : Option (Option PortResult × BitVec 32) := (nextOf a).map (fun t => (t.result, t.card.cardStatus))

/-- Why an answer is refused. -/
def refusalOf : Answer → Option Refusal
  | .next _ => none
  | .fault _ => none
  | .refused r => some r

/-- A card whose gate is open, with a status word and a relative address. -/
def card (status : BitVec 32) (rca : BitVec 16) : Card :=
  { State.reset.card with enabled := true, inserted := true, hasMedium := true, cardStatus := status, rca := rca }

/-- A state with the gate open and no scripted answer. -/
def live (status : BitVec 32) (rca : BitVec 16) : State := State.reset.setCard (card status rca)

/-- A dispatcher answer that writes nothing. -/
def answer (tag : BitVec 4) : DispatcherAnswer :=
  { tag := tag, pattern := 0x1AA#32, reset := none, cardStatus := none, rca := none, ocrLow := none, assertPowerUp := false,
    disp := none }

/-- A state with the gate open whose dispatcher answers a tag. -/
def answering (tag : BitVec 4) (status : BitVec 32) (rca : BitVec 16) : State :=
  { live status rca with answers := [answer tag] }

/-- A state whose next input is an event. -/
def expecting (e : Event) : State := State.reset.pushInput e

/-- The sealed image of 95_test_vectors.md 2.3. -/
def image : Bytes := [0x11, 0x22, 0x33, 0x44, 0x55, 0x66, 0x77, 0x88, 0x99, 0xAA, 0xBB, 0xCC, 0xDD, 0xEE, 0xF0, 0xAD]

/-! ## Decoding, every code of R59 written out bit by bit -/

theorem test_decode_crc7 : decodeTableWord 8 0b00000000 = some (.crc7 [0, 0, 0, 0, 0, 0]) := by decide
theorem test_decode_crc16 : decodeTableWord 8 0b00000001 = some (.crc16 [0, 0, 0, 0, 0, 0]) := by decide
theorem test_decode_regSeal : decodeTableWord 8 0b00000010 = some (.regSeal [0, 0, 0, 0, 0, 0]) := by decide
theorem test_decode_dataBlock : decodeTableWord 8 0b00000011 = some (.dataBlockEncode [0, 0, 0, 0, 0, 0]) := by decide
theorem test_decode_cmdEncode : decodeTableWord 8 0b00000100 = some (.cmdEncode 0 0) := by decide
theorem test_decode_cmdDecode : decodeTableWord 8 0b00000101 = some (.cmdDecode [0, 0, 0, 0, 0, 0]) := by decide
theorem test_decode_cmdCheck : decodeTableWord 8 0b00000110 = some (.cmdCheck 0 0 0) := by decide
theorem test_decode_frCommand : decodeTableWord 8 0b00000111 = some (.frCommand 0 0 0) := by decide
theorem test_decode_frFrame : decodeTableWord 8 0b00001000 = some (.frFrame [0, 0, 0, 0, 0, 0]) := by decide
theorem test_decode_respR0 : decodeTableWord 8 0b00010000 = some .respR0 := by decide
theorem test_decode_respR1 : decodeTableWord 8 0b00010001 = some .respR1 := by decide
theorem test_decode_respR1b : decodeTableWord 8 0b00010010 = some .respR1b := by decide
theorem test_decode_respR2Cid : decodeTableWord 8 0b00010011 = some .respR2Cid := by decide
theorem test_decode_respR2Csd : decodeTableWord 8 0b00010100 = some .respR2Csd := by decide
theorem test_decode_respR3 : decodeTableWord 8 0b00010101 = some .respR3 := by decide
theorem test_decode_respR6 : decodeTableWord 8 0b00010110 = some .respR6 := by decide
theorem test_decode_respR7 : decodeTableWord 8 0b00010111 = some (.respR7 0) := by decide
theorem test_decode_respIllegal : decodeTableWord 8 0b00011000 = some .respIllegal := by decide
theorem test_decode_reserved : decodeTableWord 8 0b00001001 = none ∧ decodeTableWord 8 0b00001111 = none ∧
    decodeTableWord 8 0b00011001 = none ∧ decodeTableWord 8 0b00011111 = none := by decide
theorem test_decode_operands : decode { op := 0x07, bytes := [], cmd := 13, arg := 0x45670000, crc := 0x51, pattern := 0 } =
    .ok (.frCommand 13 0x45670000 0x51) := by rfl

/-! ## Well-formedness: each check refuses an ill-formed operation (20_memory.md R39) -/

theorem test_wellFormed_regSeal : Instr.wellFormed specConfig (.regSeal []) = false := by decide
theorem test_wellFormed_dataBlock : Instr.wellFormed specConfig (.dataBlockEncode []) = false ∧
    Instr.wellFormed specConfig (.dataBlockEncode (List.replicate 513 0)) = false ∧
    Instr.wellFormed specConfig (.dataBlockEncode (List.replicate 512 0)) = true := by
  simp only [Instr.wellFormed, List.length_replicate]
  decide
theorem test_wellFormed_cmdDecode : Instr.wellFormed specConfig (.cmdDecode [0, 0, 0, 0, 0]) = false := by decide
theorem test_wellFormed_frFrame : Instr.wellFormed specConfig (.frFrame [0, 0, 0, 0, 0, 0, 0]) = false := by decide

/-! ## Vectors of 95_test_vectors.md -/

theorem test_crc7_check : seen (exec (.crc7 [0x31, 0x32, 0x33, 0x34, 0x35, 0x36, 0x37, 0x38, 0x39]) State.reset) =
    some (some (.crc7 0x75), 0) := by decide +kernel
theorem test_crc7_zero : crc7 specConfig [0x49, 0x45, 0x67, 0x00, 0x00] = 0x00 := by decide +kernel
theorem test_crc16_check : seen (exec (.crc16 [0x31, 0x32, 0x33, 0x34, 0x35, 0x36, 0x37, 0x38, 0x39]) State.reset) =
    some (some (.crc16 0x31C3), 0) := by decide +kernel
set_option maxRecDepth 100000 in
theorem test_crc16_block : crc16 specConfig (List.replicate 512 0xFF) = 0x7FA1 := by decide +kernel
theorem test_regSeal_image : seen (exec (.regSeal (image.take 15 ++ [0x00])) State.reset) =
    some (some (.bytes image), 0) := by decide +kernel
theorem test_regSeal_short : regSeal specConfig [0x12, 0x34] = [0x12, 0x17] := by decide +kernel
theorem test_dataBlock_one : seen (exec (.dataBlockEncode [0x01]) State.reset) =
    some (some (.bytes [0x01, 0x10, 0x21]), 0) := by decide +kernel
theorem test_dataBlock_513 : refusalOf (exec (.dataBlockEncode (List.replicate 513 0)) State.reset) = some .badLength := by
  simp only [exec, execDataBlockEncode, List.length_replicate]
  rfl
theorem test_cmdEncode_13 : seen (exec (.cmdEncode 13 0x45670000) State.reset) =
    some (some (.bytes [0x4D, 0x45, 0x67, 0x00, 0x00, 0xA3]), 0) := by decide +kernel
theorem test_cmdEncode_18 : commandFrame specConfig 18 0x00001000 = [0x52, 0x00, 0x00, 0x10, 0x00, 0x93] := by decide +kernel
theorem test_cmdDecode_ones : seen (exec (.cmdDecode [0xFF, 0xFF, 0xFF, 0xFF, 0xFF, 0xFF]) State.reset) =
    some (some (.fields 63 0xFFFFFFFF 0x7F false), 0) := by decide +kernel
theorem test_cmdDecode_cmd8 : seen (exec (.cmdDecode [0x48, 0x00, 0x00, 0x01, 0xAA, 0x87]) State.reset) =
    some (some (.fields 8 0x000001AA 0x43 true), 0) := by decide +kernel
theorem test_cmdCheck_zero : seen (exec (.cmdCheck 9 0x45670000 0x00) State.reset) = some (some (.check true), 0) := by
  decide +kernel
theorem test_cmdCheck_bit : seen (exec (.cmdCheck 8 0x000001AB 0x43) State.reset) = some (some (.check false), 0) := by
  decide +kernel
theorem test_frCommand_r1 : seen (exec (.frCommand 13 0 0x06) (answering 0x1 0xFFFFFFFF 0)) =
    some (some (.transaction (.tag .r1) [0xFF, 0xFF, 0xFF, 0xFF]), 0x020641D7) := by decide +kernel
theorem test_frCommand_r6 : seen (exec (.frCommand 3 0 0x10) (answering 0x6 0xFFFFFFFF 0x4567)) =
    some (some (.transaction (.tag .r6) [0x45, 0x67, 0xFF, 0xFF]), 0xFF37E1D7) := by decide +kernel
theorem test_frFrame_transmission_bit : seen (exec (.frFrame [0x00, 0x00, 0x00, 0x00, 0x00, 0x95]) (live 0 0)) =
    some (some (.transaction (.tag .illegal) []), 0x00800000) := by decide +kernel
theorem test_frFrame_r0 : seen (exec (.frFrame [0x40, 0x00, 0x00, 0x00, 0x00, 0x95]) (answering 0x0 0xFFFFFFFF 0)) =
    some (some (.transaction (.tag .r0) []), 0xFF3FE1FF) := by decide +kernel
theorem test_respR0 : seen (exec .respR0 (live 0xFFFFFFFF 0)) = some (some (.bytes []), 0xFFFFFFFF) := by decide +kernel
theorem test_respR1_ones : seen (exec .respR1 (live 0xFFFFFFFF 0)) =
    some (some (.bytes [0xFF, 0xFF, 0xFF, 0xFF]), 0x02C65FD7) := by decide +kernel
theorem test_respR1_mixed : seen (exec .respR1 (live 0x80000920 0)) =
    some (some (.bytes [0x80, 0x00, 0x09, 0x20]), 0x00000900) := by decide +kernel
theorem test_respR1b : seen (exec .respR1b (live 0x00000700 0)) =
    some (some (.bytes [0x00, 0x00, 0x07, 0x00]), 0x00000700) := by decide +kernel
theorem test_respR2Cid : seen (exec .respR2Cid (State.reset.setCard { card 0 0 with cid := ⟨image.toArray, rfl⟩ })) =
    some (some (.bytes image), 0) := by decide +kernel
theorem test_respR2Csd : seen (exec .respR2Csd State.reset) =
    some (some (.bytes (List.replicate 15 0x00 ++ [0x01])), 0) := by decide +kernel
theorem test_respR3 : seen (exec .respR3 (State.reset.setCard { card 0 0 with ocr := 0xC0FF8000 })) =
    some (some (.bytes [0xC0, 0xFF, 0x80, 0x00]), 0) := by decide +kernel
theorem test_respR6_mixed : seen (exec .respR6 (live 0x00400920 0x0001)) =
    some (some (.bytes [0x00, 0x01, 0x49, 0x20]), 0x00400900) := by decide +kernel
theorem test_respR6_error : seen (exec .respR6 (live 0x00080528 0)) =
    some (some (.bytes [0x00, 0x00, 0x25, 0x28]), 0x00000500) := by decide +kernel
theorem test_respR7 : seen (exec (.respR7 0x000001AA) (live 0x20 0)) =
    some (some (.bytes [0x00, 0x00, 0x01, 0xAA]), 0x20) := by decide +kernel
theorem test_respIllegal : seen (exec .respIllegal (live 0xFFFFFFFF 0)) = some (some (.bytes []), 0xFFFFFFFF) := by
  decide +kernel
theorem test_powerUp_fires : (nextOf (step (expecting .powerUpFires))).map (fun t => t.card.ocr) = some 0x80000000 := by
  decide +kernel
theorem test_fetchWord_runs_respR3 : seen (step (State.reset.withFetchWord 8 0x15)) =
    some (some (.bytes [0x00, 0x00, 0x00, 0x00]), 0) := by decide +kernel

/-! ## Witnesses: for each statement with hypotheses, states and operands that meet them, clause by clause -/

/-- The calls of the eighteen codes of OperationCodesSelectOperations, and of the ends of the two reserved ranges. -/
theorem witness_OperationCodesSelectOperations :
    (([0x00, 0x01, 0x02, 0x03, 0x04, 0x05, 0x06, 0x07, 0x08, 0x10, 0x11, 0x12, 0x13, 0x14, 0x15, 0x16, 0x17, 0x18] :
      List (BitVec 5)).map (fun n => (decode (PortCall.bare n)).toBool)).all id = true ∧
    decode (PortCall.bare 0x09) = .error .reservedOp ∧ decode (PortCall.bare 0x0F) = .error .reservedOp ∧
    decode (PortCall.bare 0x19) = .error .reservedTag ∧ decode (PortCall.bare 0x1F) = .error .reservedTag :=
  ⟨by decide, rfl, rfl, rfl, rfl⟩

theorem witness_PortDecodeAndEncodeAgree : decode (PortCall.bare 0x15) = .ok .respR3 := rfl

/-- A state whose next input is a call. -/
def calling (op : BitVec 5) : State := expecting (.call (PortCall.bare op))

theorem witness_StepRunsTheDecodedCall : (calling 0x15).inbox = .call (PortCall.bare 0x15) :: [] ∧
    decode (PortCall.bare 0x15) = .ok .respR3 ∧ State.reset.inbox = [] := ⟨rfl, rfl, rfl⟩

theorem witness_ReservedCodesAreRefused :
    refusalOf (step (calling 0x09)) = some .reservedOp ∧ refusalOf (step (calling 0x0F)) = some .reservedOp ∧
    refusalOf (step (calling 0x19)) = some .reservedTag ∧ refusalOf (step (calling 0x1F)) = some .reservedTag ∧
    (decode (PortCall.bare 0x08)).toBool = true ∧ (decode (PortCall.bare 0x10)).toBool = true ∧
    (decode (PortCall.bare 0x18)).toBool = true := by
  decide

/-- The configuration of State.reset meets the premises of Crc7IsBitSerial, Crc16IsBitSerial, CrcsAreLinear,
LeadingZeroBytesDoNotChangeCrcs, CrcResidueIsZero, CrcsArePolynomialRemainders, CmdDecodeSplitsTheFrame,
FrameDecodeAndEncodeAgree, CmdCheckComparesTheCrc, FrFrameChecksInOrder and FrFrameCompletes on a configuration. -/
theorem witness_configuration : State.reset.config = specConfig ∧ specConfig.bitOrder = .msbFirst ∧
    specConfig.crc7Init = 0#7 ∧ specConfig.crc16Init = 0#16 ∧ specConfig.crc7Poly = 0x09#7 ∧
    specConfig.hdrPrefix = 0b01#2 := by decide

theorem witness_CrcsAreLinear : ([0x01, 0x80] : Bytes).length = ([0xFF, 0x00] : Bytes).length ∧
    crc7 specConfig [0xFE, 0x80] = crc7 specConfig [0x01, 0x80] ^^^ crc7 specConfig [0xFF, 0x00] := by decide +kernel

theorem witness_CrcResidueIsZero : crc16 specConfig ([0x01] ++ be16 (crc16 specConfig [0x01])) = 0 ∧
    crc7 specConfig ([0x40, 0, 0, 0, 0] ++ [crc7 specConfig [0x40, 0, 0, 0, 0] ++ 0#1]) = 0 := by decide +kernel

theorem witness_TrailerHoldsCrcAndEndBit : ([0x00] : Bytes) ≠ [] ∧ regSeal specConfig [0x00] = [0x01] := by
  decide +kernel

/-- The ends of the two ranges of lengths of DataBlockEncodeAppendsCrc: 1 and 512, 0 and 513. -/
theorem witness_DataBlockEncodeAppendsCrc : State.reset.config.dataBlockMax = 512 ∧
    ([0x00] : Bytes).length = 1 ∧ (List.replicate 512 (0x00 : Byte)).length = 512 ∧
    ([] : Bytes).length = 0 ∧ 512 < (List.replicate 513 (0x00 : Byte)).length := by
  simp only [List.length_replicate]
  decide

theorem witness_CmdDecodeSplitsTheFrame : ([0, 0, 0, 0, 0] : Bytes).length ≠ 6 ∧
    ([0, 0, 0, 0, 0, 0, 0] : Bytes).length ≠ 6 := by decide

/-- One frame on each side of FrameDecodeAndEncodeAgree. -/
theorem witness_FrameDecodeAndEncodeAgree :
    splitFrame (commandFrame specConfig 0 0) = some ⟨0, 0, 0x4A, true⟩ ∧ crcMatches specConfig 0 0 0x4A = true ∧
    splitFrame [0x40, 0, 0, 0, 0, 0x97] = some ⟨0, 0, 0x4B, true⟩ ∧ crcMatches specConfig 0 0 0x4B = false := by
  decide +kernel

/-- The ends of the ranges of bits and bytes of CmdCheckComparesTheCrc. -/
theorem witness_CmdCheckComparesTheCrc : crcMatches specConfig 0 0 0x4A = true ∧
    crcMatches specConfig 0 (0 ^^^ (1#32 <<< 0)) 0x4A = false ∧ crcMatches specConfig 0 (0 ^^^ (1#32 <<< 31)) 0x4A = false ∧
    ([0x40, 0, 0, 0, 0] : Bytes).length = 5 ∧ crc7 specConfig [0x41, 0, 0, 0, 0] ≠ crc7 specConfig [0x40, 0, 0, 0, 0] ∧
    crc7 specConfig [0x40, 0, 0, 0, 0x80] ≠ crc7 specConfig [0x40, 0, 0, 0, 0] := by decide +kernel

/-- A state with the gate open, an `ocr` and scripted answers, whose next input is a command with its correct CRC field. -/
def poweredUp (ocr : BitVec 32) (answers : List DispatcherAnswer) : State :=
  { live 0 0 with
    card := { card 0 0 with ocr := ocr }, answers := answers, inbox := [.call (encode (commandRequest specConfig 0 0))] }

/-- A state whose dispatcher writes `ocr[30:0]` and asserts power-up. -/
def writingOcr : State := poweredUp 0 [{ answer 0x5 with ocrLow := some 0x40FF8000, assertPowerUp := true }]

theorem witness_DispatcherAnswersAreInputs : (answering 0x1 0 0).answers = [answer 0x1] ∧ (live 0 0).answers = [] ∧
    (writingOcr.dispatched 0 0).card.ocr = 0xC0FF8000 ∧ (poweredUp 0x80000000 []).card.ocr.getLsbD 31 = true ∧
    ((poweredUp 0x80000000 [answer 0x0]).dispatchAnswer 0 0).reset = none := by decide

/-- The three ways a gate is closed. -/
def closed : List Card :=
  [{ card 0 0 with enabled := false }, { card 0 0 with inserted := false }, { card 0 0 with hasMedium := false }]

/-- FrCommandRunsItsSteps, ClosedGateWritesNothing, StateSurvivesWhileGated: each flag closes the gate, a bad CRC field
or not. -/
theorem witness_closed_gate : (closed.map (fun c => c.gateOpen)) = [false, false, false] ∧
    (closed.map (fun c => seen (exec (.frCommand 0 0 0x4B) (State.reset.setCard c)))).all
      (· == some (some (.transaction .gated []), 0)) = true ∧
    ([0, 0, 0, 0, 0, 0] : Bytes).length = 6 ∧
    (∀ i ∈ [Instr.frCommand 0 0 0, .frFrame [0, 0, 0, 0, 0, 0]], i.isCommand = true ∧ i.wellFormed specConfig = true) := by
  decide +kernel

/-- FrCommandRunsItsSteps and CrcMismatchIsAFramingError: gate open, wrong CRC field. -/
theorem witness_wrong_crc : (live 0 0).card.gateOpen = true ∧ (live 0 0).config.checkCmdCrc = true ∧
    crc7 specConfig (header specConfig 0 0) ≠ 0x4B ∧
    seen (exec (.frCommand 0 0 0x4B) (live 0 0)) = some (some (.transaction (.tag .illegal) []), 0x00800000) := by
  decide +kernel

/-- FrCommandRunsItsSteps and StepEightEncodesThenClears: gate open, right CRC field, each code of a tag, and the ends of
the reserved codes. -/
theorem witness_each_tag : (answering 0x0 0 0).card.gateOpen = true ∧ crcMatches specConfig 0 0 0x4A = true ∧
    (([0x0, 0x1, 0x2, 0x3, 0x4, 0x5, 0x6, 0x7, 0x8] : List (BitVec 4)).map (fun n =>
      (seen (exec (.frCommand 0 0 0x4A) (answering n 0xFFFFFFFF 0))).map (·.2))) =
      [some 0xFF3FE1FF, some 0x020641D7, some 0x020641D7, some 0xFF3FE1FF, some 0xFF3FE1FF, some 0xFF3FE1FF,
        some 0xFF37E1D7, some 0xFF3FE1FF, some 0xFFFFFFFF] ∧
    refusalOf (exec (.frCommand 0 0 0x4A) (answering 0x9 0 0)) = some .badDispatcherTag ∧
    refusalOf (exec (.frCommand 0 0 0x4A) (answering 0xF 0 0)) = some .badDispatcherTag := by decide +kernel

/-- The example of R87, the last clause of FrCommandRunsItsSteps. -/
theorem witness_FrCommandRunsItsSteps_example :
    ((answering 0x1 0x00000900 0).dispatched 13 0x45670000).card = (answering 0x1 0x00000900 0).card ∧
    seen (exec (.frCommand 13 0x45670000 0x51) (answering 0x1 0x00000900 0)) =
      some (some (.transaction (.tag .r1) [0x00, 0x00, 0x09, 0x00]), 0x00000100) := by decide +kernel

/-- A state whose instance does not check the CRC (R92). -/
def unchecked (tag : BitVec 4) : State := { answering tag 0 0 with config := { specConfig with checkCmdCrc := false } }

theorem witness_UncheckedCrcIsDispatched : (unchecked 0x0).config.checkCmdCrc = false ∧
    (unchecked 0x0).card.gateOpen = true ∧
    seen (exec (.frCommand 0 0 0x4B) (unchecked 0x0)) = some (some (.transaction (.tag .r0) []), 0) ∧
    seen (exec (.frFrame [0, 0, 0, 0, 0, 0]) (unchecked 0x0)) = some (some (.transaction (.tag .r0) []), 0) := by
  decide +kernel

/-- FrFrameChecksInOrder, clause by clause: lengths 5 and 7, a closed gate with bad fixed bits, each fixed bit wrong, all
three right. -/
theorem witness_FrFrameChecksInOrder :
    refusalOf (exec (.frFrame [0, 0, 0, 0, 0]) (live 0 0)) = some .badLength ∧
    refusalOf (exec (.frFrame [0, 0, 0, 0, 0, 0, 0]) (live 0 0)) = some .badLength ∧
    seen (exec (.frFrame [0x00, 0, 0, 0, 0, 0x94]) State.reset) = some (some (.transaction .gated []), 0) ∧
    (([[0xC0, 0, 0, 0, 0, 0x95], [0x00, 0, 0, 0, 0, 0x95], [0x40, 0, 0, 0, 0, 0x94]] : List Bytes).map
      (fun f => seen (exec (.frFrame f) (live 0 0)))).all
        (· == some (some (.transaction (.tag .illegal) []), 0x00800000)) = true ∧
    seen (exec (.frFrame (commandFrame specConfig 0 0)) (answering 0x0 0 0)) =
      some (some (.transaction (.tag .r0) []), 0) := by decide +kernel

theorem witness_FrFrameCompletes : (live 0 0).card.gateOpen = true ∧
    ((answering 0x6 0 0).dispatchAnswer 0 0).tag = RespTag.r6.code := by decide +kernel

/-- CrcErrorIsExposedThenCleared: the dispatcher leaves bit 23 set; R1, R6, ILLEGAL and a closed gate. -/
theorem witness_CrcErrorIsExposedThenCleared : specConfig.maskClearOnRead.getLsbD 23 = false ∧
    specConfig.maskClearOnValid.getLsbD 23 = true ∧
    (∀ cmd arg, ((answering 0x1 0x00800000 0).dispatched cmd arg).card.cardStatus.getLsbD 23 = true) ∧
    seen (exec (.frCommand 0 0 0x4A) (answering 0x1 0x00800000 0)) =
      some (some (.transaction (.tag .r1) [0x00, 0x80, 0x00, 0x00]), 0) ∧
    seen (exec (.frCommand 0 0 0x4A) (answering 0x6 0x00800000 0)) =
      some (some (.transaction (.tag .r6) [0x00, 0x00, 0x80, 0x00]), 0) ∧
    seen (exec (.frCommand 0 0 0x4A) (answering 0x8 0x00800000 0)) =
      some (some (.transaction (.tag .illegal) []), 0x00800000) ∧
    seen (exec (.frCommand 0 0 0x4A) (State.reset.setCard { card 0x00800000 0 with enabled := false })) =
      some (some (.transaction .gated []), 0x00800000) :=
  ⟨by decide, by decide, fun _ _ => show (0x00800000#32).getLsbD 23 = true by decide, by decide +kernel, by decide +kernel,
    by decide +kernel, by decide +kernel⟩

theorem witness_StatusResponsesReadThenClear : (live 0xFFFFFFFF 0).config.maskClearOnRead = specConfig.maskClearOnRead ∧
    (live 0xFFFFFFFF 0).card.cardStatus = 0xFFFFFFFF ∧ (live 0x80000920 0).card.cardStatus = 0x80000920 ∧
    (([9, 12, 22, 23] : List Nat).map (fun k => (0x02C65FD7 : BitVec 32).getLsbD k)).all id = true := by decide

/-- RegisterResponses, and the sealed registers of the invariant: every register of zeros, sealed. -/
theorem witness_RegisterResponses : (live 0 0).registersSealed ∧ (live 0 0).config = specConfig ∧
    (∀ k : Fin 15, (live 0 0).card.csd[k] = 0x00#8) := by decide +kernel

theorem witness_RcaResponse : (live 0xFFFFFFFF 0).config.maskClearOnRead = specConfig.maskClearOnRead ∧
    (live 0xFFFFFFFF 0).config.r6SrcMask = specConfig.r6SrcMask ∧ (live 0xFFFFFFFF 0).card.rca = 0 ∧
    (live 0x00000520 0x4567).card.rca = 0x4567 := by decide

/-- ResponseLengthFollowsFromTheTag, CommandTransactionsKeepTheRest, NoOperationWritesTheGateFlags: a command that
completes with a tag. -/
theorem witness_command_completes : (Instr.frCommand 0 0 0x4A).isCommand = true ∧
    seen (exec (.frCommand 0 0 0x4A) (answering 0x5 0 0)) = some (some (.transaction (.tag .r3) [0, 0, 0, 0]), 0) := by
  decide +kernel

/-- CardStatusChangesOnlyAsListed: one operation of each kind that completes. -/
theorem witness_CardStatusChangesOnlyAsListed :
    seen (exec .respR1 (live 0xFFFFFFFF 0)) = some (some (.bytes [0xFF, 0xFF, 0xFF, 0xFF]), 0x02C65FD7) ∧
    seen (exec .respR1b (live 0xFFFFFFFF 0)) = some (some (.bytes [0xFF, 0xFF, 0xFF, 0xFF]), 0x02C65FD7) ∧
    seen (exec .respR6 (live 0xFFFFFFFF 0)) = some (some (.bytes [0x00, 0x00, 0xFF, 0xFF]), 0xFFF7FFD7) ∧
    seen (exec .respR3 (live 0xFFFFFFFF 0)) = some (some (.bytes [0x00, 0x00, 0x00, 0x00]), 0xFFFFFFFF) := by
  decide +kernel

theorem witness_OperationsOutsideTransactionsKeepTheRest : Instr.isCommand .respR2Cid = false ∧
    ∃ t, exec .respR2Cid (live 0 0) = .next t := ⟨rfl, _, rfl⟩

theorem witness_PureOperationsReadNoField : Instr.isPure (.cmdCheck 0 0 0x4A) = true ∧
    Instr.isPure (.regSeal []) = true := by decide

/-- SpiHasNoEffect, FramerIgnoresExpectingAcmd: a command with a scripted answer. -/
theorem witness_SpiHasNoEffect : Instr.isCommand (.frCommand 0 0 0x4A) = true ∧ (answering 0x1 0 0).answers ≠ [] := by
  decide

/-- OperationsNeverFault, BadLengthIsExactlyIllFormed: both refusals occur, and a well-formed operation is not refused. -/
theorem witness_refusals : refusalOf (exec (.regSeal []) State.reset) = some .badLength ∧
    refusalOf (exec (.frFrame (commandFrame specConfig 0 0)) (answering 0x9 0 0)) = some .badDispatcherTag ∧
    Instr.wellFormed specConfig (.regSeal [0]) = true := by decide +kernel

theorem witness_EveryWellFormedOperationCompletes : Instr.wellFormed specConfig (.frFrame [0, 0, 0, 0, 0, 0]) = true ∧
    ∀ cmd arg, ((answering 0x8 0 0).dispatchAnswer cmd arg).tag.toNat < 9 := ⟨rfl, fun _ _ => show (0x8#4).toNat < 9 by decide⟩

/-- ParametersNeverChange, EveryStepKeepsRegistersSealed, ImagesChangeOnlyAtReset: a step from a state with the
invariant. -/
theorem witness_step_with_invariant : (calling 0x11).wellFormed ∧ ∃ t, step (calling 0x11) = .next t :=
  ⟨by decide +kernel, _, rfl⟩

/-- The data of a card's reset with a capacity. -/
def resetTo (capacity : Nat) : CardResetData := { resetData with capacity := capacity }

/-- CardResetSetsItsFields: capacities of 1 GiB and one byte more, by the event and by the dispatcher. -/
theorem witness_CardResetSetsItsFields :
    (nextOf (step (expecting (.cardReset (resetTo 0x40000000))))).map (fun t => t.card.ocr) = some 0x00000000 ∧
    (nextOf (step (expecting (.cardReset (resetTo 0x40000001))))).map (fun t => t.card.ocr) = some 0x40000000 ∧
    (({ live 0 0 with answers := [{ answer 0x0 with reset := some (resetTo 0x40000001) }] } : State).dispatched 0 0).card.ocr =
      0x40000000 := by decide +kernel

/-- PowerUpFiresBetweenTransactions: `ocr[31]` clear (test_powerUp_fires), set, and inside a transaction. -/
theorem witness_PowerUpFiresBetweenTransactions :
    step ((expecting .powerUpFires).setCard { card 0 0 with ocr := 0x80000000 }) = .fault .powerUpTwice ∧
    step (expecting (.overlappedCall (PortCall.bare 0x07) .powerUpFires)) = .refused .hostOverlap := ⟨rfl, rfl⟩

theorem witness_OverlappedCallsAreRefused :
    step (expecting (.overlappedCall (PortCall.bare 0x07) (.hostCall (PortCall.bare 0x00)))) = .refused .hostOverlap ∧
    step (expecting (.overlappedCall (PortCall.bare 0x07) .readByte)) = .refused .hostOverlap ∧
    step (expecting (.overlappedCall (PortCall.bare 0x07) (.writeByte 0x00))) = .refused .hostOverlap := ⟨rfl, rfl, rfl⟩

/-- The data of a card's reset in a dispatcher answer. -/
def resetting : DispatcherAnswer := { answer 0x0 with reset := some resetData }

/-- PowerUpBitIsMonotoneBetweenResets: the bit is set and the next input is a command whose dispatcher resets nothing and
writes no bit of `ocr`, or writes bits 30:0; or the gate is closed while a resetting answer waits, and nothing is called. -/
theorem witness_PowerUpBitIsMonotoneBetweenResets :
    (∀ d rest, (poweredUp 0x80000000 [answer 0x0]).inbox ≠ .cardReset d :: rest) ∧
    (∀ cmd arg, ((poweredUp 0x80000000 [answer 0x0]).dispatchAnswer cmd arg).reset = none) ∧
    (∀ cmd arg, ((poweredUp 0x80000000 [answer 0x0]).dispatchAnswer cmd arg).ocrLow = none) ∧
    (nextOf (step (poweredUp 0x80000000 [answer 0x0]))).map (fun t => t.card.ocr) = some 0x80000000 ∧
    (nextOf (step (poweredUp 0x80000000 [{ answer 0x0 with ocrLow := some 1 }]))).map (fun t => t.card.ocr) =
      some 0x80000001 ∧
    (nextOf (step { poweredUp 0x80000000 [resetting] with card := { card 0 0 with enabled := false, ocr := 0x80000000 } })).map
      (fun t => (t.card.ocr, t.answers, t.draws)) = some (0x80000000, [resetting], 0) :=
  ⟨fun _ _ h => (by simp [poweredUp] at h), fun _ _ => rfl, fun _ _ => rfl, by decide +kernel, by decide +kernel, by decide +kernel⟩

end Sys2Proof.Tests
end

section
/-! What a step, an input and an operation can do, each said once: the rules the proofs about steps cite. -/

namespace Sys2Proof.Machine

/-! ## A step and its next input (00_scope.md R11, 20_memory.md R38) -/

/-- With no input the machine rests. -/
theorem step_of_inbox_nil {s : State} (h : s.inbox = []) : step s = .next s := by
  simp [step, State.advance, h]

/-- A step is the meaning of the oldest input, in the state without it. -/
theorem step_of_inbox_cons {s : State} {e : Event} {rest : List Event} (h : s.inbox = e :: rest) :
    step s = (s.takeInput rest).runEvent e := by
  simp [step, State.advance, h]

/-- A call that decodes runs the decoded operation. -/
theorem State.runCall_of_decode {c : PortCall} {i : Instr} (s : State) (h : decode c = .ok i) :
    s.runCall c = exec i s := by
  simp [State.runCall, h]

/-- A call that leads to a next state decodes to an operation that leads there. -/
theorem State.runCall_next {s t : State} {c : PortCall} (h : s.runCall c = .next t) :
    ∃ i, decode c = .ok i ∧ exec i s = .next t := by
  unfold State.runCall at h
  split at h
  · next i hdecode => exact ⟨i, hdecode, h⟩
  · cases h
  · cases h

/-- An input that leads to a next state is a call whose operation leads there, or it writes the card alone. -/
theorem State.runEvent_next {s t : State} {e : Event} (h : s.runEvent e = .next t) :
    (∃ c i, e = .call c ∧ decode c = .ok i ∧ exec i s = .next t) ∨ ∃ c, t = s.setCard c := by
  cases e with
  | call c =>
    obtain ⟨i, hdecode, hexec⟩ := State.runCall_next h
    exact .inl ⟨c, i, rfl, hdecode, hexec⟩
  | overlappedCall => cases h
  | powerUpFires =>
    simp only [State.runEvent, State.powerUpFires] at h
    split at h
    · cases h
    · cases h; exact .inr ⟨_, rfl⟩
  | cardReset => cases h; exact .inr ⟨_, rfl⟩
  | setEnabled => cases h; exact .inr ⟨_, rfl⟩
  | setInserted => cases h; exact .inr ⟨_, rfl⟩
  | setHasMedium => cases h; exact .inr ⟨_, rfl⟩
  | dataEngine => cases h; exact .inr ⟨_, rfl⟩

/-! ## How a transaction ends -/

/-- The transaction ends in `t` from `s`: a result goes to the host, and no field of the card but `card_status` is
written (00_scope.md R8, 10_state.md R14). -/
def State.EndsIn (s t : State) : Prop :=
  ∃ status result, t = (s.setCard (s.card.setStatus status)).finish result

theorem State.EndsIn.config_eq {s t : State} (h : s.EndsIn t) : t.config = s.config := by
  obtain ⟨status, result, rfl⟩ := h
  simp

/-- An operation that only returns writes `card_status` as it was. -/
theorem State.returns_endsIn {s t : State} {r : PortResult} (h : s.returns r = .next t) : s.EndsIn t := by
  cases h
  exact ⟨s.card.cardStatus, r, rfl⟩

theorem State.framingError_endsIn {s t : State} (h : s.framingError = .next t) : s.EndsIn t := by
  cases h
  exact ⟨_, _, rfl⟩

/-- An encoding called directly by the host ends its transaction, when it writes no more than `card_status`. -/
theorem State.responds_endsIn {s t : State} {e : Encoded} (h : s.responds e = .next t)
    (hcard : ∃ status, e.card = s.card.setStatus status) : s.EndsIn t := by
  obtain ⟨status, hcard⟩ := hcard
  rw [State.responds, hcard] at h
  cases h
  exact ⟨status, _, rfl⟩

/-- Step 8 writes `card_status` twice, by the encoding and by its clear. -/
theorem State.stepEight_endsIn {s t : State} {tag : RespTag} {pattern : BitVec 32}
    (h : s.stepEight tag pattern = .next t) : s.EndsIn t := by
  obtain ⟨status, hcard⟩ := respEncode_card s.config tag pattern s.card
  simp only [State.stepEight, Card.afterTag_eq, hcard] at h
  cases h
  exact ⟨_, _, rfl⟩

/-- A command transaction past its gate ends from the state it began in, or from the one the dispatcher left. -/
theorem State.checkAndDispatch_endsIn {s t : State} {cmd : BitVec 6} {arg : BitVec 32} {crc : BitVec 7}
    (h : s.checkAndDispatch cmd arg crc = .next t) : s.EndsIn t ∨ (s.dispatched cmd arg).EndsIn t := by
  obtain ⟨-, -, heq⟩ | ⟨-, heq⟩ := s.checkAndDispatch_cases cmd arg crc <;> rw [heq] at h
  · exact .inl (State.framingError_endsIn h)
  · obtain ⟨tag, -, hstep⟩ := State.dispatchAndEncode_next h
    exact .inr (State.stepEight_endsIn hstep)

/-- A gated transaction ends at the gate, with the state as it was, or the gate is open and it goes on. -/
theorem State.gated_next {s t : State} {a : Answer} (h : s.gated a = .next t) :
    s.EndsIn t ∨ (s.card.gateOpen = true ∧ a = .next t) := by
  obtain ⟨hopen, heq⟩ | ⟨-, heq⟩ := s.gated_cases a <;> rw [heq] at h
  · exact .inr ⟨hopen, h⟩
  · exact .inl (State.returns_endsIn h)

/-! ## What an operation can do -/

/-- The dispatcher is called by a command transaction whose gate is open, with that operation's own request; every
other operation, and a command transaction that does not reach the dispatcher, ends from the state it began in. -/
theorem exec_next {i : Instr} {s t : State} (h : exec i s = .next t) :
    s.EndsIn t ∨ ∃ cmd arg, i.request = some (cmd, arg) ∧ s.card.gateOpen = true ∧ (s.dispatched cmd arg).EndsIn t := by
  cases i with
  | crc7 | crc16 | cmdEncode | cmdCheck => exact .inl (State.returns_endsIn h)
  | regSeal | dataBlockEncode =>
    simp only [exec, execRegSeal, execDataBlockEncode] at h
    split at h
    · cases h
    · exact .inl (State.returns_endsIn h)
  | cmdDecode =>
    simp only [exec, execCmdDecode] at h
    split at h
    · exact .inl (State.returns_endsIn h)
    · cases h
  | frCommand cmd arg =>
    obtain hends | ⟨hopen, hcheck⟩ := State.gated_next h
    · exact .inl hends
    · exact (State.checkAndDispatch_endsIn hcheck).imp_right fun hends => ⟨cmd, arg, rfl, hopen, hends⟩
  | frFrame frame =>
    simp only [exec, execFrFrame] at h
    split at h
    · next f hsplit =>
      obtain hends | ⟨hopen, hbody⟩ := State.gated_next h
      · exact .inl hends
      · split at hbody
        · exact .inl (State.framingError_endsIn hbody)
        · exact (State.checkAndDispatch_endsIn hbody).imp_right fun hends =>
            ⟨f.cmd, f.arg, by simp [Instr.request, hsplit], hopen, hends⟩
    · cases h
  | respR0 | respR1 | respR1b | respR2Cid | respR2Csd | respR3 | respR6 | respR7 | respIllegal =>
    exact .inl (State.responds_endsIn h ⟨_, rfl⟩)

/-! ## No step changes a parameter (00_scope.md R6) -/

/-- The dispatcher's part of a command transaction included. -/
theorem exec_config {i : Instr} {s t : State} (h : exec i s = .next t) : t.config = s.config := by
  obtain hends | ⟨cmd, arg, -, -, hends⟩ := exec_next h
  · exact hends.config_eq
  · exact hends.config_eq.trans (s.dispatched_config cmd arg)

theorem State.runEvent_config {s t : State} {e : Event} (h : s.runEvent e = .next t) : t.config = s.config := by
  obtain ⟨c, i, -, -, hexec⟩ | ⟨c, rfl⟩ := State.runEvent_next h
  · exact exec_config hexec
  · exact s.setCard_config c

/-- Settles O49: a step rests, or runs one input in the state without it, and no input changes the configuration. -/
theorem parametersNeverChange : Obligations.ParametersNeverChange := by
  intro s t h
  match hinbox : s.inbox with
  | [] =>
    rw [step_of_inbox_nil hinbox] at h
    cases h
    rfl
  | e :: rest =>
    rw [step_of_inbox_cons hinbox] at h
    exact (State.runEvent_config h).trans (s.takeInput_config rest)

/-! ## A step runs the decoded call -/

/-- Settles O4, by the equations of `step` for each shape of the inputs and that of `runCall` for a call that decodes. -/
theorem stepRunsTheDecodedCall : Obligations.StepRunsTheDecodedCall := by
  have hcall (s : State) (c : PortCall) (rest : List Event) (h : s.inbox = .call c :: rest) :
      step s = State.runCall c (s.takeInput rest) := step_of_inbox_cons h
  refine ⟨fun s c rest i hinbox hdecode => ?_, hcall, fun s => step_of_inbox_nil⟩
  exact (hcall s c rest hinbox).trans (State.runCall_of_decode _ hdecode)

end Sys2Proof.Machine
end

section
/-! The register images stay sealed (10_state.md R22, 40_crc.md R73): at reset, by every write to the card, and so by
every step. -/

namespace Sys2Proof.Machine

/-! ## The sealed images of a card -/

/-- The images of a card are sealed: `State.registersSealed`, said of a card under a configuration. -/
def Card.imagesSealed (cfg : Config) (c : Card) : Prop :=
  isSealed cfg c.cid = true ∧ isSealed cfg c.csd = true ∧ (cfg.scrSealed = true → isSealed cfg c.scr = true)

theorem State.registersSealed_iff (s : State) : s.registersSealed ↔ s.card.imagesSealed s.config := Iff.rfl

/-- A card with the images of a sealed card is sealed. -/
theorem Card.imagesSealed.of_images_eq {cfg : Config} {c c' : Card} (h : c.imagesSealed cfg)
    (himages : c'.cid = c.cid ∧ c'.csd = c.csd ∧ c'.scr = c.scr) : c'.imagesSealed cfg := by
  obtain ⟨hcid, hcsd, hscr⟩ := himages
  simpa only [Card.imagesSealed, hcid, hcsd, hscr] using h

/-- The card's reset seals the images, whatever they are and whatever stood before (R28, R73). -/
theorem Card.imagesSealed_reset (cfg : Config) (d : CardResetData) (c : Card) : (c.reset cfg d).imagesSealed cfg := by
  refine ⟨isSealed_sealRegister cfg d.cid, isSealed_sealRegister cfg d.csd, fun hscr => ?_⟩
  simp [hscr]

/-- A dispatcher answer leaves the images, or seals those of the reset it makes (20_memory.md R45). -/
theorem Card.imagesSealed.dispatcherWrites {cfg : Config} {c : Card} (h : c.imagesSealed cfg) (a : DispatcherAnswer) :
    (c.dispatcherWrites cfg a).imagesSealed cfg := by
  have himages := Card.dispatcherWrites_images cfg a c
  cases hreset : a.reset with
  | none =>
    rw [hreset] at himages
    exact h.of_images_eq himages
  | some d =>
    rw [hreset] at himages
    exact (Card.imagesSealed_reset cfg d c).of_images_eq himages

/-- The Data Transfer Engine writes no image. -/
theorem Card.dataEngineWrites_images (status : Option (BitVec 32)) (state : Option CardState) (c : Card) :
    (c.dataEngineWrites status state).cid = c.cid ∧ (c.dataEngineWrites status state).csd = c.csd ∧
      (c.dataEngineWrites status state).scr = c.scr := by
  cases status <;> cases state <;> exact ⟨rfl, rfl, rfl⟩

/-! ## The invariant of the machine -/

/-- A transaction ends with empty transient registers (10_state.md R14), its images as they were. -/
theorem State.EndsIn.wellFormed {s t : State} (h : s.EndsIn t) (hs : s.registersSealed) : t.wellFormed := by
  obtain ⟨status, result, rfl⟩ := h
  exact ⟨hs, rfl, rfl⟩

theorem exec_wellFormed {i : Instr} {s t : State} (hs : s.registersSealed) (h : exec i s = .next t) : t.wellFormed := by
  obtain hends | ⟨cmd, arg, -, -, hends⟩ := exec_next h
  · exact hends.wellFormed hs
  · have hleft : (s.dispatched cmd arg).card.imagesSealed s.config :=
      ((State.registersSealed_iff s).mp hs).dispatcherWrites _
    refine hends.wellFormed ?_
    rwa [State.registersSealed_iff, State.dispatched_config]

theorem State.runEvent_wellFormed {s t : State} {e : Event} (hs : s.wellFormed) (h : s.runEvent e = .next t) :
    t.wellFormed := by
  obtain ⟨hsealed, hempty⟩ := hs
  cases e with
  | call c =>
    obtain ⟨i, -, hexec⟩ := State.runCall_next h
    exact exec_wellFormed hsealed hexec
  | overlappedCall => cases h
  | powerUpFires =>
    simp only [State.runEvent, State.powerUpFires] at h
    split at h
    · cases h
    · cases h; exact ⟨hsealed, hempty⟩
  | cardReset d => cases h; exact ⟨Card.imagesSealed_reset s.config d s.card, hempty⟩
  | setEnabled => cases h; exact ⟨hsealed, hempty⟩
  | setInserted => cases h; exact ⟨hsealed, hempty⟩
  | setHasMedium => cases h; exact ⟨hsealed, hempty⟩
  | dataEngine status state =>
    cases h
    have hcard : s.card.imagesSealed s.config := hsealed
    exact ⟨hcard.of_images_eq (Card.dataEngineWrites_images status state s.card), hempty⟩

/-- Settles O50: a step rests, or runs one input in the state without it, and every input keeps the invariant. -/
theorem everyStepKeepsRegistersSealed : Obligations.EveryStepKeepsRegistersSealed := by
  intro s t hs h
  match hinbox : s.inbox with
  | [] =>
    rw [step_of_inbox_nil hinbox] at h
    cases h
    exact hs
  | e :: rest =>
    rw [step_of_inbox_cons hinbox] at h
    have htaken : (s.takeInput rest).wellFormed := hs
    exact State.runEvent_wellFormed htaken h

/-! ## The state after reset -/

/-- The card's reset clears the power-up bit, whatever the capacity and the configuration (R28). -/
theorem ocrAfterReset_powerUpBit (cfg : Config) (capacity : Nat) : (ocrAfterReset cfg capacity).getLsbD 31 = false := by
  grind [ocrAfterReset]

/-- Settles O51: State.reset is a card after its reset, which seals any images, with empty transient registers. -/
theorem resetStateIsSealed : Obligations.ResetStateIsSealed :=
  ⟨⟨Card.imagesSealed_reset specConfig resetData constructedCard, rfl, rfl⟩, rfl,
    ocrAfterReset_powerUpBit specConfig resetData.capacity⟩

end Sys2Proof.Machine
end

section
/-! What the operations do to `card_status` (10_state.md R17, R19), and what they leave of the rest of the state. -/

namespace Sys2Proof.Machine

/-! ## The status masks -/

/-- Settles O38: the masks are closed words, computed from the table of R17. -/
theorem statusMasksFollowTheBitMap : Obligations.StatusMasksFollowTheBitMap := by
  unfold Obligations.StatusMasksFollowTheBitMap
  decide

/-! ## Operations outside the command transactions -/

/-- What an operation outside the command transactions makes of `card_status` (R19 (b), (c)). -/
def statusAfter (cfg : Config) (i : Instr) (status : BitVec 32) : BitVec 32 :=
  match i with
  | .respR1 | .respR1b => clearOnRead cfg status
  | .respR6 => clearOnR6 cfg status
  | _ => status

/-- Only R1, R1B and R6 write the word. -/
theorem statusAfter_eq_self {cfg : Config} {i : Instr} {status : BitVec 32} (hr1 : i ≠ .respR1) (hr1b : i ≠ .respR1b)
    (hr6 : i ≠ .respR6) : statusAfter cfg i status = status := by
  unfold statusAfter
  split
  · exact absurd rfl hr1
  · exact absurd rfl hr1b
  · exact absurd rfl hr6
  · rfl

/-- An operation that is no command transaction returns something, writes `card_status` and ends; nothing else. -/
theorem exec_next_of_not_command {i : Instr} {s t : State} (hi : i.isCommand = false) (h : exec i s = .next t) :
    ∃ result, t = (s.setCard (s.card.setStatus (statusAfter s.config i s.card.cardStatus))).finish result := by
  cases i with
  | frCommand | frFrame => cases hi
  | regSeal | dataBlockEncode =>
    simp only [exec, execRegSeal, execDataBlockEncode] at h
    split at h
    · cases h
    · cases h; exact ⟨_, rfl⟩
  | cmdDecode =>
    simp only [exec, execCmdDecode] at h
    split at h
    · cases h; exact ⟨_, rfl⟩
    · cases h
  | crc7 | crc16 | cmdEncode | cmdCheck | respR0 | respR1 | respR1b | respR2Cid | respR2Csd | respR3 | respR6 | respR7
  | respIllegal => cases h; exact ⟨_, rfl⟩

/-- Settles O41: such an operation ends from the state it began in, with the word of `statusAfter`. -/
theorem operationsOutsideTransactionsKeepTheRest : Obligations.OperationsOutsideTransactionsKeepTheRest := by
  intro i s t hi h
  obtain ⟨result, rfl⟩ := exec_next_of_not_command hi h
  refine ⟨rfl, Option.some_ne_none result, fun hr1 hr1b hr6 => ?_⟩
  rw [statusAfter_eq_self hr1 hr1b hr6]
  rfl

/-! ## Command transactions -/

/-- A transaction that ends in `t` from `s` leaves every field but `card_status`, what it returned and the transient
registers. -/
theorem State.EndsIn.frame {s t : State} (h : s.EndsIn t) :
    t.config = s.config ∧ t.inbox = s.inbox ∧ t.r7 = none ∧ t.r16 = none ∧
      t.card = { s.card with cardStatus := t.card.cardStatus } ∧ t.answers = s.answers ∧ t.draws = s.draws := by
  obtain ⟨status, result, rfl⟩ := h
  exact ⟨rfl, rfl, rfl, rfl, rfl, rfl, rfl⟩

/-- Settles O42: the transaction ends from the state it began in, or from the one the dispatcher left. -/
theorem commandTransactionsKeepTheRest : Obligations.CommandTransactionsKeepTheRest := by
  intro i s t _ h
  obtain hends | ⟨cmd, arg, hrequest, -, hends⟩ := exec_next h
  · obtain ⟨hconfig, hinbox, hr7, hr16, hrest⟩ := hends.frame
    exact ⟨hconfig, hinbox, hr7, hr16, .inl hrest⟩
  · obtain ⟨hconfig, hinbox, hr7, hr16, hrest⟩ := hends.frame
    exact ⟨hconfig.trans (s.dispatched_config cmd arg), hinbox.trans (s.dispatched_inbox cmd arg), hr7, hr16,
      .inr ⟨cmd, arg, hrequest, hrest⟩⟩

/-- What an encoding makes of `card_status` (R19 (b), (c)). -/
def statusEncoded (cfg : Config) (tag : RespTag) (status : BitVec 32) : BitVec 32 :=
  if tag = .r1 ∨ tag = .r1b then clearOnRead cfg status
  else if tag = .r6 then clearOnR6 cfg status else status

theorem respEncode_card_eq (cfg : Config) (tag : RespTag) (pattern : BitVec 32) (c : Card) :
    (respEncode cfg tag pattern c).card = c.setStatus (statusEncoded cfg tag c.cardStatus) := by
  cases tag <;> rfl

/-- Step 8 returns its tag, and `card_status` goes through the encoding and then the clear of R19 (d). -/
theorem State.stepEight_next {s t : State} {tag : RespTag} {pattern : BitVec 32}
    (h : s.stepEight tag pattern = .next t) :
    (∃ out, t.result = some (.transaction (.tag tag) out)) ∧
      t.card.cardStatus = if tag = .illegal then statusEncoded s.config tag s.card.cardStatus
        else clearOnValid s.config (statusEncoded s.config tag s.card.cardStatus) := by
  cases h
  refine ⟨⟨_, rfl⟩, ?_⟩
  simp [Card.afterTag_eq, respEncode_card_eq]

/-- A command transaction past its gate ends as a framing error or by step 8 after the dispatcher. -/
theorem State.checkAndDispatch_next {s t : State} {cmd : BitVec 6} {arg : BitVec 32} {crc : BitVec 7}
    (h : s.checkAndDispatch cmd arg crc = .next t) :
    s.framingError = .next t ∨ ∃ tag pattern, (s.dispatched cmd arg).stepEight tag pattern = .next t := by
  obtain ⟨-, -, heq⟩ | ⟨-, heq⟩ := s.checkAndDispatch_cases cmd arg crc <;> rw [heq] at h
  · exact .inl h
  · obtain ⟨tag, -, hstep⟩ := State.dispatchAndEncode_next h
    exact .inr ⟨tag, _, hstep⟩

/-- A gate ends the transaction with GATED, or it lets it go on. -/
theorem State.gated_next_or {s t : State} {a : Answer} (h : s.gated a = .next t) :
    s.returns (.transaction .gated []) = .next t ∨ a = .next t := by
  obtain ⟨-, heq⟩ | ⟨-, heq⟩ := s.gated_cases a <;> rw [heq] at h
  · exact .inr h
  · exact .inl h

/-- The three ends of a command transaction: GATED, a framing error, or step 8 after the dispatcher has answered the
operation's own request (41_command_frame.md R87, R93). -/
theorem exec_next_of_command {i : Instr} {s t : State} (hi : i.isCommand = true) (h : exec i s = .next t) :
    s.returns (.transaction .gated []) = .next t ∨ s.framingError = .next t ∨
      ∃ cmd arg tag pattern, i.request = some (cmd, arg) ∧ (s.dispatched cmd arg).stepEight tag pattern = .next t := by
  cases i with
  | frCommand cmd arg crc =>
    refine (State.gated_next_or h).imp_right fun hcheck => ?_
    exact (State.checkAndDispatch_next hcheck).imp_right fun ⟨tag, pattern, hstep⟩ =>
      ⟨cmd, arg, tag, pattern, rfl, hstep⟩
  | frFrame frame =>
    simp only [exec, execFrFrame] at h
    split at h
    · next f hsplit =>
      have hrequest : (Instr.frFrame frame).request = some (f.cmd, f.arg) := by simp [Instr.request, hsplit]
      refine (State.gated_next_or h).imp_right fun hbody => ?_
      split at hbody
      · exact .inl hbody
      · exact (State.checkAndDispatch_next hbody).imp_right fun ⟨tag, pattern, hstep⟩ =>
          ⟨f.cmd, f.arg, tag, pattern, hrequest, hstep⟩
    · cases h
  | _ => cases hi

/-- Settles O39: an operation outside the command transactions writes the word of `statusAfter`; a command transaction
has three ends, and in the last one the word goes through the encoding and the clear of step 8. -/
theorem cardStatusChangesOnlyAsListed : Obligations.CardStatusChangesOnlyAsListed := by
  intro i s t h
  have houtside (hi : i.isCommand = false) : t.card.cardStatus = statusAfter s.config i s.card.cardStatus := by
    obtain ⟨result, rfl⟩ := exec_next_of_not_command hi h
    rfl
  refine ⟨?_, ?_, fun hi hr1 hr1b hr6 => (houtside hi).trans (statusAfter_eq_self hr1 hr1b hr6), fun hi => ?_⟩
  · rintro (rfl | rfl) <;> exact houtside rfl
  · rintro rfl
    exact houtside rfl
  · obtain hgated | herror | ⟨cmd, arg, tag, pattern, hrequest, hstep⟩ := exec_next_of_command hi h
    · cases hgated
      exact .inl ⟨rfl, rfl⟩
    · cases herror
      exact .inr (.inl ⟨rfl, rfl⟩)
    · obtain ⟨⟨out, hresult⟩, hstatus⟩ := State.stepEight_next hstep
      rw [State.dispatched_config] at hstatus
      exact .inr (.inr ⟨cmd, arg, tag, out, hrequest, hresult, hstatus⟩)

end Sys2Proof.Machine
end

section
/-! `spi` has no effect (10_state.md R24): setting it before an operation or after it is the same. One rule for each
shared operation, in the order in which they call each other. -/

namespace Sys2Proof.Machine

/-- `spi <- b`, with nothing else of the card changed. -/
def Card.setSpi (c : Card) (b : Bool) : Card := { c with spi := b }

/-- The machine with `spi` set to `b`. -/
def State.setSpi (s : State) (b : Bool) : State := s.setCard (s.card.setSpi b)

/-- The same answer, `spi` set to `b` in its next state. -/
def withSpi (b : Bool) : Answer → Answer := mapNext fun t => t.setSpi b

theorem Card.dispatcherWrites_setSpi (cfg : Config) (a : DispatcherAnswer) (c : Card) (b : Bool) :
    (c.setSpi b).dispatcherWrites cfg a = (c.dispatcherWrites cfg a).setSpi b := by
  unfold Card.dispatcherWrites
  cases a.reset <;> cases a.cardStatus <;> cases a.rca <;> cases a.ocrLow <;> cases a.disp <;>
    cases a.assertPowerUp <;> rfl

theorem respEncode_setSpi (cfg : Config) (tag : RespTag) (pattern : BitVec 32) (c : Card) (b : Bool) :
    respEncode cfg tag pattern (c.setSpi b) =
      { out := (respEncode cfg tag pattern c).out, card := (respEncode cfg tag pattern c).card.setSpi b } := by
  cases tag <;> rfl

theorem Card.afterTag_setSpi (cfg : Config) (tag : RespTag) (c : Card) (b : Bool) :
    (c.setSpi b).afterTag cfg tag = (c.afterTag cfg tag).setSpi b := by
  cases tag <;> rfl

theorem State.returns_setSpi (s : State) (b : Bool) (r : PortResult) :
    (s.setSpi b).returns r = withSpi b (s.returns r) := rfl

theorem State.framingError_setSpi (s : State) (b : Bool) : (s.setSpi b).framingError = withSpi b s.framingError := rfl

theorem State.stepEight_setSpi (s : State) (b : Bool) (tag : RespTag) (pattern : BitVec 32) :
    (s.setSpi b).stepEight tag pattern = withSpi b (s.stepEight tag pattern) := by
  simp only [State.stepEight, State.setSpi, State.setCard_config, State.setCard_card, respEncode_setSpi,
    Card.afterTag_setSpi]
  rfl

theorem State.gated_setSpi {s : State} {b : Bool} {a a' : Answer} (h : a' = withSpi b a) :
    (s.setSpi b).gated a' = withSpi b (s.gated a) := by
  subst h
  have hgate : (s.setSpi b).card.gateOpen = s.card.gateOpen := rfl
  unfold State.gated
  rw [hgate]
  split
  · rfl
  · exact s.returns_setSpi b _

/-! ### The dispatcher's part, with a scripted answer (entry 4: a free answer may depend on `spi`) -/

section
variable {s : State} (hscript : s.answers ≠ [])
include hscript

theorem State.dispatchAnswer_setSpi (b : Bool) (cmd : BitVec 6) (arg : BitVec 32) :
    (s.setSpi b).dispatchAnswer cmd arg = s.dispatchAnswer cmd arg := by
  obtain ⟨a, rest, hcons⟩ := List.exists_cons_of_ne_nil hscript
  simp [State.dispatchAnswer, State.setSpi, hcons]

theorem State.useAnswer_setSpi (b : Bool) : (s.setSpi b).useAnswer = s.useAnswer.setSpi b := by
  obtain ⟨a, rest, hcons⟩ := List.exists_cons_of_ne_nil hscript
  simp [State.useAnswer, State.setSpi, State.setCard, hcons]

theorem State.dispatched_setSpi (b : Bool) (cmd : BitVec 6) (arg : BitVec 32) :
    (s.setSpi b).dispatched cmd arg = (s.dispatched cmd arg).setSpi b := by
  unfold State.dispatched
  rw [State.dispatchAnswer_setSpi hscript, State.useAnswer_setSpi hscript]
  exact congrArg s.useAnswer.setCard (Card.dispatcherWrites_setSpi s.config _ s.card b)

theorem State.dispatchAndEncode_setSpi (b : Bool) (cmd : BitVec 6) (arg : BitVec 32) :
    (s.setSpi b).dispatchAndEncode cmd arg = withSpi b (s.dispatchAndEncode cmd arg) := by
  unfold State.dispatchAndEncode
  rw [State.dispatchAnswer_setSpi hscript, State.dispatched_setSpi hscript]
  split
  · exact State.stepEight_setSpi _ b _ _
  · rfl

theorem State.checkAndDispatch_setSpi (b : Bool) (cmd : BitVec 6) (arg : BitVec 32) (crc : BitVec 7) :
    (s.setSpi b).checkAndDispatch cmd arg crc = withSpi b (s.checkAndDispatch cmd arg crc) := by
  have hconfig : (s.setSpi b).config = s.config := rfl
  unfold State.checkAndDispatch
  rw [hconfig]
  split
  · exact s.framingError_setSpi b
  · exact State.dispatchAndEncode_setSpi hscript b cmd arg

end

/-! ### Every operation -/

theorem exec_setSpi {i : Instr} {s : State} (b : Bool) (hscript : i.isCommand = true → s.answers ≠ []) :
    exec i (s.setSpi b) = withSpi b (exec i s) := by
  have hconfig : (s.setSpi b).config = s.config := rfl
  cases i with
  | crc7 | crc16 | cmdEncode | cmdCheck => rfl
  | regSeal | dataBlockEncode =>
    simp only [exec, execRegSeal, execDataBlockEncode, hconfig]
    split <;> rfl
  | cmdDecode =>
    simp only [exec, execCmdDecode]
    split <;> rfl
  | frCommand cmd arg crc => exact State.gated_setSpi (State.checkAndDispatch_setSpi (hscript rfl) b cmd arg crc)
  | frFrame =>
    simp only [exec, execFrFrame, hconfig]
    split
    · refine State.gated_setSpi ?_
      split
      · exact s.framingError_setSpi b
      · exact State.checkAndDispatch_setSpi (hscript rfl) b _ _ _
    · rfl
  | respR0 | respR1 | respR1b | respR2Cid | respR2Csd | respR3 | respR6 | respR7 | respIllegal => rfl

/-- Settles O44: setting `spi` goes through each shared operation, and so through each operation. -/
theorem spiHasNoEffect : Obligations.SpiHasNoEffect :=
  fun _ _ b hscript => exec_setSpi b hscript

end Sys2Proof.Machine
end

section
/-! The pure operations read no field of the card (20_memory.md R40). -/

namespace Sys2Proof.Machine

/-- An operation that only returns neither reads nor writes the card. -/
theorem State.returns_setCard (s : State) (c : Card) (r : PortResult) :
    (s.setCard c).returns r = mapNext (fun t => t.setCard c) (s.returns r) := rfl

/-- Settles O43: a pure operation returns a value of its operands and the configuration, or it is refused by an operand
length; the card is in neither. -/
theorem pureOperationsReadNoField : Obligations.PureOperationsReadNoField := by
  intro i s c hi
  have hconfig : (s.setCard c).config = s.config := rfl
  cases i with
  | crc7 | crc16 | cmdEncode | cmdCheck => exact s.returns_setCard c _
  | regSeal | dataBlockEncode =>
    simp only [exec, execRegSeal, execDataBlockEncode, hconfig]
    split
    · rfl
    · exact s.returns_setCard c _
  | cmdDecode =>
    simp only [exec, execCmdDecode]
    split
    · exact s.returns_setCard c _
    · rfl
  | _ => cases hi

end Sys2Proof.Machine
end

section
/-! When an operation completes and when it is refused (20_memory.md R32, R39; 60_exceptions.md R124): by its operand
lengths, and a command transaction by the dispatcher's tag as well. -/

namespace Sys2Proof.Machine

/-! ## Answers that complete -/

/-- The operation goes on to a next state with something returned to the host. -/
def Completes (a : Answer) : Prop := ∃ t r, a = .next t ∧ t.result = some r

theorem Completes.ne_refused {a : Answer} (h : Completes a) (r : Refusal) : a ≠ .refused r := by
  obtain ⟨t, _, rfl, -⟩ := h
  nofun

theorem State.returns_completes (s : State) (r : PortResult) : Completes (s.returns r) := ⟨_, r, rfl, rfl⟩

theorem State.responds_completes (s : State) (e : Encoded) : Completes (s.responds e) := ⟨_, _, rfl, rfl⟩

theorem State.framingError_completes (s : State) : Completes s.framingError := ⟨_, _, rfl, rfl⟩

theorem State.stepEight_completes (s : State) (tag : RespTag) (pattern : BitVec 32) :
    Completes (s.stepEight tag pattern) := ⟨_, _, rfl, rfl⟩

/-! ## Command transactions -/

/-- The transaction completes, or the dispatcher answers `Dispatch(cmd, arg)` with a tag outside the nine and it is
refused for that (41_command_frame.md R86). -/
def State.CompletesUnlessBadTag (s : State) (cmd : BitVec 6) (arg : BitVec 32) (a : Answer) : Prop :=
  Completes a ∨ (RespTag.ofCode (s.dispatchAnswer cmd arg).tag = none ∧ a = .refused .badDispatcherTag)

theorem State.dispatchAndEncode_completes (s : State) (cmd : BitVec 6) (arg : BitVec 32) :
    s.CompletesUnlessBadTag cmd arg (s.dispatchAndEncode cmd arg) := by
  unfold State.dispatchAndEncode
  split
  · exact .inl (State.stepEight_completes _ _ _)
  · next htag => exact .inr ⟨htag, rfl⟩

theorem State.checkAndDispatch_completes (s : State) (cmd : BitVec 6) (arg : BitVec 32) (crc : BitVec 7) :
    s.CompletesUnlessBadTag cmd arg (s.checkAndDispatch cmd arg crc) := by
  obtain ⟨-, -, heq⟩ | ⟨-, heq⟩ := s.checkAndDispatch_cases cmd arg crc <;> rw [heq]
  · exact .inl s.framingError_completes
  · exact s.dispatchAndEncode_completes cmd arg

theorem State.CompletesUnlessBadTag.gated {s : State} {cmd : BitVec 6} {arg : BitVec 32} {a : Answer}
    (h : s.CompletesUnlessBadTag cmd arg a) : s.CompletesUnlessBadTag cmd arg (s.gated a) := by
  obtain ⟨-, heq⟩ | ⟨-, heq⟩ := s.gated_cases a <;> rw [heq]
  · exact h
  · exact .inl (s.returns_completes _)

/-! ## Every operation -/

/-- A frame splits when its length is the one well-formedness asks for. -/
theorem splitFrame_of_length {frame : Bytes} (h : frame.length = 6) : ∃ f, splitFrame frame = some f := by
  rw [← Option.isSome_iff_exists, splitFrame_isSome]
  exact decide_eq_true h

theorem splitFrame_of_length_ne {frame : Bytes} (h : frame.length ≠ 6) : splitFrame frame = none := by
  rw [← Option.not_isSome_iff_eq_none, splitFrame_isSome]
  simpa using h

/-- An operand length out of its range is refused before anything else is looked at (R39). -/
theorem exec_of_not_wellFormed {i : Instr} {s : State} (h : i.wellFormed s.config = false) :
    exec i s = .refused .badLength := by
  cases i with
  | regSeal img => exact if_pos (by simpa [Instr.wellFormed] using h)
  | dataBlockEncode blk =>
    refine if_pos ?_
    simp only [Instr.wellFormed, Bool.and_eq_false_iff, decide_eq_false_iff_not] at h
    omega
  | cmdDecode | frFrame =>
    simp [exec, execCmdDecode, execFrFrame, splitFrame_of_length_ne (of_decide_eq_false h)]
  | _ => cases h

/-- An operation whose operand lengths are in range completes, unless it is a command transaction whose own request the
dispatcher answers with a tag outside the nine. -/
theorem exec_of_wellFormed {i : Instr} {s : State} (h : i.wellFormed s.config = true) :
    Completes (exec i s) ∨ (i.isCommand = true ∧ ∃ cmd arg, i.request = some (cmd, arg) ∧
      RespTag.ofCode (s.dispatchAnswer cmd arg).tag = none ∧ exec i s = .refused .badDispatcherTag) := by
  cases i with
  | crc7 | crc16 | cmdEncode | cmdCheck => exact .inl (s.returns_completes _)
  | regSeal img =>
    have hlength : ¬ img.length = 0 := Nat.one_le_iff_ne_zero.mp (of_decide_eq_true h)
    simp only [exec, execRegSeal, if_neg hlength]
    exact .inl (s.returns_completes _)
  | dataBlockEncode blk =>
    have hlength : ¬ (blk.length = 0 ∨ s.config.dataBlockMax < blk.length) := by
      simp only [Instr.wellFormed, Bool.and_eq_true, decide_eq_true_eq] at h
      omega
    simp only [exec, execDataBlockEncode, if_neg hlength]
    exact .inl (s.returns_completes _)
  | cmdDecode =>
    obtain ⟨f, hsplit⟩ := splitFrame_of_length (of_decide_eq_true h)
    simp only [exec, execCmdDecode, hsplit]
    exact .inl (s.returns_completes _)
  | frCommand cmd arg crc =>
    exact (s.checkAndDispatch_completes cmd arg crc).gated.imp_right fun hbad => ⟨rfl, cmd, arg, rfl, hbad⟩
  | frFrame frame =>
    obtain ⟨f, hsplit⟩ := splitFrame_of_length (of_decide_eq_true h)
    have hdone : s.CompletesUnlessBadTag f.cmd f.arg (exec (.frFrame frame) s) := by
      simp only [exec, execFrFrame, hsplit]
      refine State.CompletesUnlessBadTag.gated ?_
      split
      · exact .inl s.framingError_completes
      · exact s.checkAndDispatch_completes f.cmd f.arg f.crc
    exact hdone.imp_right fun hbad => ⟨rfl, f.cmd, f.arg, by simp [Instr.request, hsplit], hbad⟩
  | respR0 | respR1 | respR1b | respR2Cid | respR2Csd | respR3 | respR6 | respR7 | respIllegal =>
    exact .inl (s.responds_completes _)

/-- Settles O46: ill-formed operations are refused so; a well-formed one completes or is refused for the tag. -/
theorem badLengthIsExactlyIllFormed : Obligations.BadLengthIsExactlyIllFormed := by
  intro i s
  refine ⟨fun hrefused => ?_, exec_of_not_wellFormed⟩
  by_contra hformed
  obtain hdone | ⟨-, -, -, -, -, htag⟩ := exec_of_wellFormed (Bool.eq_true_of_not_eq_false hformed)
  · exact hdone.ne_refused .badLength hrefused
  · rw [hrefused] at htag
    cases htag

/-- Settles O48: a code below 9 stands for a tag, so that a command transaction is not refused for it. -/
theorem everyWellFormedOperationCompletes : Obligations.EveryWellFormedOperationCompletes := by
  intro i s hformed htags
  obtain hdone | ⟨hcommand, cmd, arg, -, hnone, -⟩ := exec_of_wellFormed hformed
  · exact hdone
  · have hsome : (RespTag.ofCode (s.dispatchAnswer cmd arg).tag).isSome = true := by
      rw [RespTag.ofCode_isSome]
      exact decide_eq_true (htags hcommand cmd arg)
    simp [hnone] at hsome

end Sys2Proof.Machine
end

section
/-! The images `cid` and `csd` change only at the card's reset (20_memory.md R45). -/

namespace Sys2Proof.Machine

/-- `c'` has the images of `c`. -/
def Card.SameImages (c c' : Card) : Prop := c'.cid = c.cid ∧ c'.csd = c.csd

/-- The images of the card are the sealed ones of a reset with the data `d` (R28, R73). -/
def Card.ImagesOfReset (cfg : Config) (d : CardResetData) (c : Card) : Prop :=
  c.cid = sealRegister cfg d.cid ∧ c.csd = sealRegister cfg d.csd

theorem Card.SameImages.trans {c c' c'' : Card} (h : c.SameImages c') (h' : c'.SameImages c'') : c.SameImages c'' :=
  ⟨h'.1.trans h.1, h'.2.trans h.2⟩

theorem Card.ImagesOfReset.of_sameImages {cfg : Config} {d : CardResetData} {c c' : Card} (h : c.ImagesOfReset cfg d)
    (hsame : c.SameImages c') : c'.ImagesOfReset cfg d :=
  ⟨hsame.1.trans h.1, hsame.2.trans h.2⟩

/-- A dispatcher answer leaves the images, or it resets the card and they are those of its reset. -/
theorem Card.dispatcherWrites_sameImages_or (cfg : Config) (a : DispatcherAnswer) (c : Card) :
    c.SameImages (c.dispatcherWrites cfg a) ∨
      ∃ d, a.reset = some d ∧ (c.dispatcherWrites cfg a).ImagesOfReset cfg d := by
  obtain ⟨hcid, hcsd, -⟩ := Card.dispatcherWrites_images cfg a c
  cases hreset : a.reset with
  | none =>
    rw [hreset] at hcid hcsd
    exact .inl ⟨hcid, hcsd⟩
  | some d =>
    rw [hreset] at hcid hcsd
    exact .inr ⟨d, rfl, hcid, hcsd⟩

theorem State.EndsIn.sameImages {s t : State} (h : s.EndsIn t) : s.card.SameImages t.card := by
  obtain ⟨status, result, rfl⟩ := h
  exact ⟨rfl, rfl⟩

/-- An operation leaves the images, or the dispatcher answers its own request with a reset that makes them. -/
theorem exec_sameImages_or {i : Instr} {s t : State} (h : exec i s = .next t) :
    s.card.SameImages t.card ∨ ∃ cmd arg d, i.request = some (cmd, arg) ∧
      (s.dispatchAnswer cmd arg).reset = some d ∧ t.card.ImagesOfReset s.config d := by
  obtain hends | ⟨cmd, arg, hrequest, -, hends⟩ := exec_next h
  · exact .inl hends.sameImages
  · have hleft : (s.card.dispatcherWrites s.config (s.dispatchAnswer cmd arg)).SameImages t.card := hends.sameImages
    obtain hsame | ⟨d, hreset, himages⟩ := Card.dispatcherWrites_sameImages_or s.config (s.dispatchAnswer cmd arg) s.card
    · exact .inl (hsame.trans hleft)
    · exact .inr ⟨cmd, arg, d, hrequest, hreset, himages.of_sameImages hleft⟩

/-- An input leaves the images, or it is the card's reset, or the dispatcher is called and answers with a reset. -/
theorem State.runEvent_sameImages_or {s t : State} {e : Event} (h : s.runEvent e = .next t) :
    s.card.SameImages t.card ∨ ∃ d, (e = .cardReset d ∨ ∃ cmd arg, (s.dispatchAnswer cmd arg).reset = some d) ∧
      t.card.ImagesOfReset s.config d := by
  cases e with
  | call c =>
    obtain ⟨i, -, hexec⟩ := State.runCall_next h
    exact (exec_sameImages_or hexec).imp_right fun ⟨cmd, arg, d, _, hreset, himages⟩ =>
      ⟨d, .inr ⟨cmd, arg, hreset⟩, himages⟩
  | overlappedCall => cases h
  | powerUpFires =>
    simp only [State.runEvent, State.powerUpFires] at h
    split at h
    · cases h
    · cases h; exact .inl ⟨rfl, rfl⟩
  | cardReset d => cases h; exact .inr ⟨d, .inl rfl, rfl, rfl⟩
  | setEnabled | setInserted | setHasMedium => cases h; exact .inl ⟨rfl, rfl⟩
  | dataEngine status state =>
    cases h
    obtain ⟨hcid, hcsd, -⟩ := Card.dataEngineWrites_images status state s.card
    exact .inl ⟨hcid, hcsd⟩

/-- Settles O52: a step rests, or runs one input in the state without it, where the dispatcher answers the same. -/
theorem imagesChangeOnlyAtReset : Obligations.ImagesChangeOnlyAtReset := by
  intro s t h
  match hinbox : s.inbox with
  | [] =>
    rw [step_of_inbox_nil hinbox] at h
    cases h
    exact .inl ⟨rfl, rfl⟩
  | e :: rest =>
    rw [step_of_inbox_cons hinbox] at h
    refine (State.runEvent_sameImages_or h).imp_right fun ⟨d, hcause, himages⟩ => ⟨d, ?_, himages⟩
    exact hcause.imp_left fun he => ⟨rest, by rw [he]⟩

end Sys2Proof.Machine
end

section
/-! The operation port's table of codes, said once for every call (30_encoding.md R59, R60). -/

namespace Sys2Proof

/-- The encoder uses none of the reserved codes, for any operation. -/
theorem Laws.NotReserved.forall_instr : ∀ i : Instr, Statement i
  | .crc7 bs => crc7 bs
  | .crc16 bs => crc16 bs
  | .regSeal img => regSeal img
  | .dataBlockEncode blk => dataBlockEncode blk
  | .cmdEncode cmd arg => cmdEncode cmd arg
  | .cmdDecode frame => cmdDecode frame
  | .cmdCheck cmd arg crc => cmdCheck cmd arg crc
  | .frCommand cmd arg crc => frCommand cmd arg crc
  | .frFrame frame => frFrame frame
  | .respR0 => respR0
  | .respR1 => respR1
  | .respR1b => respR1b
  | .respR2Cid => respR2Cid
  | .respR2Csd => respR2Csd
  | .respR3 => respR3
  | .respR6 => respR6
  | .respR7 pattern => respR7 pattern
  | .respIllegal => respIllegal

/-- A call's code is in 0x09..0x0F (R60). -/
def PortCall.ReservedOp (c : PortCall) : Prop := 0x09 ≤ c.op.toNat ∧ c.op.toNat ≤ 0x0F

/-- A call's code is in 0x19..0x1F (42_response.md R110). -/
def PortCall.ReservedTag (c : PortCall) : Prop := 0x19 ≤ c.op.toNat

/-- A call decodes to an operation with its own code, or its code is in one of the reserved ranges and it is rejected by
that name. -/
theorem decode_cases (c : PortCall) :
    (∃ i, decode c = .ok i ∧ c.op = (encode i).op) ∨ (c.ReservedOp ∧ decode c = .error .reservedOp) ∨
      (c.ReservedTag ∧ decode c = .error .reservedTag) := by
  unfold decode
  split
  case h_19 =>
    -- The other branches' codes are ruled out; `omega` reads this as disequalities.
    right
    simp only [imp_false] at *
    unfold PortCall.ReservedOp PortCall.ReservedTag
    split
    · exact .inl ⟨by omega, rfl⟩
    · exact .inr ⟨by omega, rfl⟩
  all_goals
    next hcode => exact .inl ⟨_, rfl, BitVec.eq_of_toNat_eq hcode⟩

/-- A call decodes to an operation only when it has that operation's code. -/
theorem op_eq_of_decode {c : PortCall} {i : Instr} (h : decode c = .ok i) : c.op = (encode i).op := by
  obtain ⟨j, hdecode, hop⟩ | ⟨-, hdecode⟩ | ⟨-, hdecode⟩ := decode_cases c <;> rw [hdecode] at h <;> cases h
  exact hop

/-- A reserved code spells no operation. -/
theorem not_reserved_of_decode {c : PortCall} {i : Instr} (h : decode c = .ok i) :
    ¬ c.ReservedOp ∧ ¬ c.ReservedTag := by
  have hcode : c.op.toNat < 0x09 ∨ (0x10 ≤ c.op.toNat ∧ c.op.toNat < 0x19) := by
    rw [op_eq_of_decode h]
    exact Laws.NotReserved.forall_instr i
  unfold PortCall.ReservedOp PortCall.ReservedTag
  omega

theorem decode_of_reservedOp {c : PortCall} (h : c.ReservedOp) : decode c = .error .reservedOp := by
  obtain ⟨i, hdecode, -⟩ | ⟨-, hdecode⟩ | ⟨htag, -⟩ := decode_cases c
  · exact absurd h (not_reserved_of_decode hdecode).1
  · exact hdecode
  · unfold PortCall.ReservedOp PortCall.ReservedTag at *
    omega

theorem decode_of_reservedTag {c : PortCall} (h : c.ReservedTag) : decode c = .error .reservedTag := by
  obtain ⟨i, hdecode, -⟩ | ⟨hop, -⟩ | ⟨-, hdecode⟩ := decode_cases c
  · exact absurd h (not_reserved_of_decode hdecode).2
  · unfold PortCall.ReservedOp PortCall.ReservedTag at *
    omega
  · exact hdecode

/-- The encoder keeps every operand at every value. -/
@[simp] theorem decode_encode (i : Instr) : decode (encode i) = .ok i := by cases i <;> rfl

/-- Settles O1: the words are closed, and the decoder computes on them. -/
theorem writtenOutCodesDecode : Obligations.WrittenOutCodesDecode := by
  unfold Obligations.WrittenOutCodesDecode
  decide

/-- Settles O2: a code of the table is a closed number, at which the decoder computes; the reserved ranges are
those of `decode_cases`. -/
theorem operationCodesSelectOperations : Obligations.OperationCodesSelectOperations := by
  rintro ⟨op, bytes, cmd, arg, crc, pattern⟩
  refine ⟨?_, ?_, ?_, ?_, ?_, ?_, ?_, ?_, ?_, decode_of_reservedOp, ?_, ?_, ?_, ?_, ?_, ?_, ?_, ?_, ?_,
    decode_of_reservedTag⟩
  all_goals
    rintro rfl
    rfl

/-- Settles O3: a call that decodes has the operation's code already, so that writing this code changes nothing. -/
theorem portDecodeAndEncodeAgree : Obligations.PortDecodeAndEncodeAgree := by
  refine ⟨decode_encode, fun c i hdecode => ?_⟩
  have hop : c.op = (encode i).op := op_eq_of_decode hdecode
  refine ⟨hop, ?_⟩
  rw [← hop]
  exact hdecode

/-- Settles O5: the port answers a reserved code by the name the decoder rejects it with. -/
theorem reservedCodesAreRefused : Obligations.ReservedCodesAreRefused := by
  intro s c
  refine ⟨fun hop => ?_, fun htag => ?_, fun ⟨_, hdecode⟩ => not_reserved_of_decode hdecode,
    fun ⟨hop, htag⟩ => ?_⟩
  · simp [Machine.State.runCall, decode_of_reservedOp hop]
  · simp [Machine.State.runCall, decode_of_reservedTag htag]
  · obtain ⟨i, hdecode, -⟩ | ⟨hreserved, -⟩ | ⟨hreserved, -⟩ := decode_cases c
    · exact ⟨i, hdecode⟩
    · exact absurd hreserved hop
    · exact absurd hreserved htag

end Sys2Proof
end

section
/-! The form of a command frame (30_encoding.md R46, R50, R51): its fields with good fixed bits make exactly one list of
six bytes. -/

namespace Sys2Proof.Machine

/-! ## Bytes and their fields -/

/-- The bytes of a word, most significant first, make the word again (R7, 20_memory.md R33). -/
theorem append_be32 (v : BitVec 32) :
    v.extractLsb' 24 8 ++ v.extractLsb' 16 8 ++ v.extractLsb' 8 8 ++ v.extractLsb' 0 8 = v := by
  ext k hk; grind

/-- Four bytes read as a word are the bytes of that word. -/
theorem be32_append (b1 b2 b3 b4 : Byte) : be32 (b1 ++ b2 ++ b3 ++ b4) = [b1, b2, b3, b4] := by
  have h1 : (b1 ++ b2 ++ b3 ++ b4).extractLsb' 24 8 = b1 := by ext k hk; grind
  have h2 : (b1 ++ b2 ++ b3 ++ b4).extractLsb' 16 8 = b2 := by ext k hk; grind
  have h3 : (b1 ++ b2 ++ b3 ++ b4).extractLsb' 8 8 = b3 := by ext k hk; grind
  have h4 : (b1 ++ b2 ++ b3 ++ b4).extractLsb' 0 8 = b4 := by ext k hk; grind
  simp only [be32, h1, h2, h3, h4]

/-- A first byte with start bit 0 and transmission bit 1 (R51) is the bits 01, then its index. -/
theorem append_index_of_fixedBits {b : Byte} (hstart : b.getLsbD 7 = false) (htransmission : b.getLsbD 6 = true) :
    0b01#2 ++ b.extractLsb' 0 6 = b := by
  ext k hk; grind

/-- A last byte with end bit 1 (R51) is the trailer of its CRC field. -/
theorem trailer_of_endBit {b : Byte} (hend : b.getLsbD 0 = true) : trailer (b.extractLsb' 1 7) = b := by
  ext k hk; grind [trailer]

@[simp] theorem trailer_crc (c : BitVec 7) : (trailer c).extractLsb' 1 7 = c := by
  ext k hk; grind [trailer]

@[simp] theorem trailer_end (c : BitVec 7) : (trailer c).getLsbD 0 = true := by
  grind [trailer]

/-! ## The frame of three fields -/

/-- The six bytes with good fixed bits that carry an index, an argument and a CRC field (R46, R50). -/
def frameOf (cmd : BitVec 6) (arg : BitVec 32) (crc : BitVec 7) : Bytes := (0b01#2 ++ cmd) :: be32 arg ++ [trailer crc]

/-- Taking such a frame apart gives its three fields, with good fixed bits. -/
theorem splitFrame_frameOf (cmd : BitVec 6) (arg : BitVec 32) (crc : BitVec 7) :
    splitFrame (frameOf cmd arg crc) = some ⟨cmd, arg, crc, true⟩ := by
  have hcmd : (0b01#2 ++ cmd).extractLsb' 0 6 = cmd := by ext k hk; grind
  have hstart : (0b01#2 ++ cmd).getLsbD 7 = false := by grind
  have htransmission : (0b01#2 ++ cmd).getLsbD 6 = true := by grind
  simp only [frameOf, be32, List.cons_append, List.nil_append, splitFrame, frameFields, append_be32, trailer_crc,
    trailer_end, hcmd, hstart, htransmission, Bool.not_false, Bool.and_true]

/-- A byte list that splits into fields with good fixed bits is the frame of these fields. -/
theorem eq_frameOf_of_splitFrame {frame : Bytes} {cmd : BitVec 6} {arg : BitVec 32} {crc : BitVec 7}
    (h : splitFrame frame = some ⟨cmd, arg, crc, true⟩) : frame = frameOf cmd arg crc := by
  unfold splitFrame at h
  split at h
  · next b0 b1 b2 b3 b4 b5 =>
    simp only [frameFields, Option.some.injEq, FrameFields.mk.injEq, Bool.and_eq_true, Bool.not_eq_true'] at h
    obtain ⟨rfl, rfl, rfl, ⟨hstart, htransmission⟩, hend⟩ := h
    simp [frameOf, be32_append, append_index_of_fixedBits hstart htransmission, trailer_of_endBit hend]
  · cases h

/-- The frame of a request is that of its index, its argument and the CRC-7 of its header (41_command_frame.md R82). -/
theorem commandFrame_eq_frameOf {cfg : Config} (hheader : cfg.hdrPrefix = 0b01#2) (cmd : BitVec 6) (arg : BitVec 32) :
    commandFrame cfg cmd arg = frameOf cmd arg (crc7 cfg (header cfg cmd arg)) := by
  simp [commandFrame, header, frameOf, hheader]

/-- The check passes on exactly one CRC field (41_command_frame.md R85). -/
theorem crcMatches_iff {cfg : Config} {cmd : BitVec 6} {arg : BitVec 32} {crc : BitVec 7} :
    crcMatches cfg cmd arg crc = true ↔ crc7 cfg (header cfg cmd arg) = crc := beq_iff_eq

/-- Settles O18: an encoded command is the frame of its fields, and only that frame splits into them; the check fixes
the CRC field. -/
theorem frameDecodeAndEncodeAgree : Obligations.FrameDecodeAndEncodeAgree := by
  intro cfg frame cmd arg hheader
  rw [commandFrame_eq_frameOf hheader]
  constructor
  · rintro rfl
    exact ⟨_, splitFrame_frameOf _ _ _, crcMatches_iff.mpr rfl⟩
  · rintro ⟨crc, hsplit, hcrc⟩
    rw [crcMatches_iff.mp hcrc]
    exact eq_frameOf_of_splitFrame hsplit

end Sys2Proof.Machine
end

section
/-! The status projection (30_encoding.md R55) and the length of a response (R53, R56). -/

namespace Sys2Proof.Machine

/-- `R6_SRC_MASK` has ones in the three fields of the projection and nowhere else. -/
theorem r6SrcMask_getLsbD :
    ∀ k < 32, specConfig.r6SrcMask.getLsbD k = decide (k < 13 ∨ k = 19 ∨ k = 22 ∨ k = 23) := by
  decide

/-- A word under the mask is its three fields, each in its place, with zeros between them. -/
theorem and_r6SrcMask (v : BitVec 32) : v &&& specConfig.r6SrcMask =
    0#8 ++ v.extractLsb' 22 2 ++ 0#2 ++ v.extractLsb' 19 1 ++ 0#6 ++ v.extractLsb' 0 13 := by
  ext k hk
  have hmask := r6SrcMask_getLsbD k hk
  rw [BitVec.getLsbD_eq_getElem hk] at hmask
  rw [BitVec.getElem_and, hmask]
  grind

/-- Words with the same projection have the same three fields. -/
theorem fields_eq_of_status16_eq {v w : BitVec 32} (h : status16 v = status16 w) :
    v.extractLsb' 22 2 = w.extractLsb' 22 2 ∧ v.extractLsb' 19 1 = w.extractLsb' 19 1 ∧
      v.extractLsb' 0 13 = w.extractLsb' 0 13 := by
  have htop (u : BitVec 32) : (status16 u).extractLsb' 14 2 = u.extractLsb' 22 2 := by
    ext k hk; grind [status16]
  have herror (u : BitVec 32) : (status16 u).extractLsb' 13 1 = u.extractLsb' 19 1 := by
    ext k hk; grind [status16]
  have hlow (u : BitVec 32) : (status16 u).extractLsb' 0 13 = u.extractLsb' 0 13 := by
    ext k hk; grind [status16]
  rw [← htop v, ← herror v, ← hlow v, h]
  exact ⟨htop w, herror w, hlow w⟩

/-- The projection reads no bit outside the mask. -/
theorem status16_and_r6SrcMask (v : BitVec 32) : status16 (v &&& specConfig.r6SrcMask) = status16 v := by
  have htop : specConfig.r6SrcMask.extractLsb' 22 2 = BitVec.allOnes 2 := by decide
  have herror : specConfig.r6SrcMask.extractLsb' 19 1 = BitVec.allOnes 1 := by decide
  have hlow : specConfig.r6SrcMask.extractLsb' 0 13 = BitVec.allOnes 13 := by decide
  simp only [status16, BitVec.extractLsb'_and, htop, herror, hlow, BitVec.and_allOnes]

/-- Settles O36: the three fields of a word are what it is under the mask, and what its projection is made of. -/
theorem statusProjectionIsR6SrcMask : Obligations.StatusProjectionIsR6SrcMask := by
  refine fun v w => ⟨⟨fun h => ?_, fun h => ?_⟩, rfl, rfl⟩
  · obtain ⟨htop, herror, hlow⟩ := fields_eq_of_status16_eq h
    rw [and_r6SrcMask, and_r6SrcMask, htop, herror, hlow]
  · rw [← status16_and_r6SrcMask v, h, status16_and_r6SrcMask]

/-- An encoding's bytes have the length of its tag, whatever the card and the pattern. -/
theorem respEncode_out_length (cfg : Config) (tag : RespTag) (pattern : BitVec 32) (c : Card) :
    (respEncode cfg tag pattern c).out.length = responseLength tag := by
  cases tag with
  | r2Cid | r2Csd => exact Vector.length_toList
  | _ => rfl

/-- Step 8 returns its tag with the bytes of that tag's encoding. -/
theorem State.stepEight_result {s t : State} {tag : RespTag} {pattern : BitVec 32}
    (h : s.stepEight tag pattern = .next t) :
    t.result = some (.transaction (.tag tag) (respEncode s.config tag pattern s.card).out) := by
  cases h
  rfl

/-- Settles O37: of the three ends of a command transaction GATED has no tag, a framing error is ILLEGAL with no bytes,
and step 8 encodes the response of its tag. -/
theorem responseLengthFollowsFromTheTag : Obligations.ResponseLengthFollowsFromTheTag := by
  intro i s t tag out hi h hresult
  obtain hgated | herror | ⟨cmd, arg, tag', pattern, -, hstep⟩ := exec_next_of_command hi h
  · cases hgated
    cases hresult
  · cases herror
    cases hresult
    rfl
  · rw [State.stepEight_result hstep] at hresult
    cases hresult
    exact respEncode_out_length _ _ _ _

end Sys2Proof.Machine
end

section
/-! The bit-serial computers, for every width, generator and bit order at once (40_crc.md R66 to R70): CRC-7 and CRC-16 are
two instances of one register. -/

namespace Sys2Proof.Machine

variable {w : Nat}

/-! ## The register -/

/-- The register after a byte list, with the generator `poly`, from any value: the common form of rules R68 and R69. -/
def lfsrBytes (poly : BitVec w) (o : BitOrder) (r : BitVec w) (bs : Bytes) : BitVec w :=
  bs.foldl (fun r b => (byteBits o b).foldl (lfsrStep poly) r) r

theorem crc7_eq_lfsrBytes (cfg : Config) (bs : Bytes) :
    crc7 cfg bs = lfsrBytes cfg.crc7Poly cfg.bitOrder cfg.crc7Init bs := rfl

theorem crc16_eq_lfsrBytes (cfg : Config) (bs : Bytes) :
    crc16 cfg bs = lfsrBytes cfg.crc16Poly cfg.bitOrder cfg.crc16Init bs := rfl

/-- The register takes the bits of all the bytes, one after the other. -/
theorem lfsrBytes_eq_foldl (poly : BitVec w) (o : BitOrder) (r : BitVec w) (bs : Bytes) :
    lfsrBytes poly o r bs = (bs.flatMap (byteBits o)).foldl (lfsrStep poly) r :=
  List.foldl_flatMap.symm

theorem lfsrBytes_append (poly : BitVec w) (o : BitOrder) (r : BitVec w) (as bs : Bytes) :
    lfsrBytes poly o r (as ++ bs) = lfsrBytes poly o (lfsrBytes poly o r as) bs :=
  List.foldl_append

/-! ## One step -/

/-- The step in the form of R66 and R67: the shift discards the top bit, and the top bit decides. -/
theorem lfsrStep_eq_ite {n : Nat} (poly r : BitVec (n + 1)) (d : Bool) : lfsrStep poly r d =
    if (r.getLsbD n ^^ d) = true then (r.extractLsb' 0 n ++ 0#1) ^^^ poly else r.extractLsb' 0 n ++ 0#1 := by
  have hshift : r <<< 1 = r.extractLsb' 0 n ++ 0#1 := by ext k hk; grind
  simp only [lfsrStep, hshift, BitVec.msb_eq_getLsbD_last, Nat.add_sub_cancel]

/-- The shifted register, with the generator added to it when the feedback bit is set. -/
theorem lfsrStep_eq_xor (poly r : BitVec w) (d : Bool) :
    lfsrStep poly r d = r <<< 1 ^^^ if (r.msb ^^ d) = true then poly else 0#w := by
  simp only [lfsrStep]
  split <;> simp

/-- A step is linear in the register and the input bit: so is the feedback bit, and so is each of the two parts. -/
theorem lfsrStep_xor (poly r r' : BitVec w) (d d' : Bool) :
    lfsrStep poly (r ^^^ r') (d ^^ d') = lfsrStep poly r d ^^^ lfsrStep poly r' d' := by
  have hfeedback : ((r ^^^ r').msb ^^ (d ^^ d')) = ((r.msb ^^ d) ^^ (r'.msb ^^ d')) := by
    simp [Bool.xor_left_comm]
  have hselect (a b : Bool) : (if (a ^^ b) = true then poly else 0#w) =
      (if a = true then poly else 0#w) ^^^ if b = true then poly else 0#w := by
    cases a <;> cases b <;> simp
  simp only [lfsrStep_eq_xor, hfeedback, hselect, BitVec.shiftLeft_xor_distrib]
  ac_rfl

/-- A cleared register stays clear on a 0. -/
theorem lfsrStep_zero (poly : BitVec w) : lfsrStep poly 0#w false = 0#w := by
  simp [lfsrStep]

/-- An input bit equal to the top bit gives no feedback. -/
theorem lfsrStep_msb (poly r : BitVec w) : lfsrStep poly r r.msb = r <<< 1 := by
  simp [lfsrStep]

/-! ## Linearity (R70 (a)) -/

/-- A fold of a function that is linear in both arguments is linear. -/
theorem foldl_zipWith_xor {α : Type} {f : BitVec w → α → BitVec w} {add : α → α → α}
    (hf : ∀ r r' a a', f (r ^^^ r') (add a a') = f r a ^^^ f r' a') {as bs : List α} (hlength : as.length = bs.length)
    (r r' : BitVec w) : (List.zipWith add as bs).foldl f (r ^^^ r') = as.foldl f r ^^^ bs.foldl f r' := by
  induction as generalizing bs r r' with
  | nil => cases bs with
    | nil => rfl
    | cons => cases hlength
  | cons a as ih => cases bs with
    | nil => cases hlength
    | cons b bs =>
      simp only [List.zipWith_cons_cons, List.foldl_cons, hf]
      exact ih (Nat.succ.inj hlength) _ _

theorem byteBits_xor (o : BitOrder) (a b : Byte) :
    byteBits o (a ^^^ b) = List.zipWith (· ^^ ·) (byteBits o a) (byteBits o b) := by
  cases o <;> simp [byteBits]

/-- The bits of equal lists of bytes pair up, byte by byte. -/
theorem lfsrBytes_zipWith_xor (poly : BitVec w) (o : BitOrder) {as bs : Bytes} (hlength : as.length = bs.length)
    (r r' : BitVec w) : lfsrBytes poly o (r ^^^ r') (List.zipWith (· ^^^ ·) as bs) =
      lfsrBytes poly o r as ^^^ lfsrBytes poly o r' bs := by
  refine foldl_zipWith_xor (fun r r' a b => ?_) hlength r r'
  rw [byteBits_xor]
  exact foldl_zipWith_xor (lfsrStep_xor poly) (by simp) r r'

/-! ## Zero bytes (R70 (b)) -/

theorem lfsrBytes_replicate_zero (poly : BitVec w) (o : BitOrder) (n : Nat) :
    lfsrBytes poly o 0#w (List.replicate n 0x00#8) = 0#w := by
  have hbits : byteBits o 0x00#8 = List.replicate 8 false := by cases o <;> rfl
  induction n with
  | zero => rfl
  | succ n ih =>
    rw [List.replicate_succ', lfsrBytes_append, ih]
    simp [lfsrBytes, hbits, List.replicate_succ, lfsrStep_zero]

theorem lfsrBytes_replicate_zero_append (poly : BitVec w) (o : BitOrder) (n : Nat) (bs : Bytes) :
    lfsrBytes poly o 0#w (List.replicate n 0x00#8 ++ bs) = lfsrBytes poly o 0#w bs := by
  rw [lfsrBytes_append, lfsrBytes_replicate_zero]

theorem crc7_replicate_zero {cfg : Config} (hinit : cfg.crc7Init = 0x00#7) (n : Nat) :
    crc7 cfg (List.replicate n 0x00#8) = 0x00#7 := by
  rw [crc7_eq_lfsrBytes, hinit, lfsrBytes_replicate_zero]

theorem crc16_replicate_zero {cfg : Config} (hinit : cfg.crc16Init = 0x0000#16) (n : Nat) :
    crc16 cfg (List.replicate n 0x00#8) = 0x0000#16 := by
  rw [crc16_eq_lfsrBytes, hinit, lfsrBytes_replicate_zero]

/-! ## The residue (R70 (c)) -/

/-- A register that is fed its own bits, highest first, has no feedback: it shifts itself out. -/
theorem foldl_lfsrStep_getMsbD (poly r : BitVec w) (n : Nat) :
    ((List.range n).map r.getMsbD).foldl (lfsrStep poly) r = r <<< n := by
  induction n with
  | zero => simp
  | succ n ih =>
    have htop : r.getMsbD n = (r <<< n).msb := by simp
    rw [List.range_succ, List.map_append, List.foldl_append, ih]
    simp only [List.map_cons, List.map_nil, List.foldl_cons, List.foldl_nil]
    rw [htop, lfsrStep_msb, ← BitVec.shiftLeft_add]

/-- After all its bits it is clear. -/
theorem foldl_lfsrStep_self (poly r : BitVec w) : ((List.range w).map r.getMsbD).foldl (lfsrStep poly) r = 0#w := by
  rw [foldl_lfsrStep_getMsbD, BitVec.shiftLeft_eq_zero Nat.le.refl]

/-- The two bytes of a word, most significant first, are its bits from the highest down. -/
theorem flatMap_byteBits_be16 (v : BitVec 16) :
    (be16 v).flatMap (byteBits .msbFirst) = (List.range 16).map v.getMsbD := by
  simp [be16, byteBits, List.range_succ, BitVec.getMsbD]

/-- A CRC-7 in bits 7:1 of a byte is its bits from the highest down, then bit 0. -/
theorem byteBits_append_zero (c : BitVec 7) :
    byteBits .msbFirst (c ++ 0#1) = (List.range 7).map c.getMsbD ++ [false] := by
  have hcrc (k : Nat) : (c ++ 0#1 : Byte).getLsbD (k + 1) = c.getLsbD k := BitVec.getLsbD_append.trans (by simp)
  have hlast : (c ++ 0#1 : Byte).getLsbD 0 = false := BitVec.getLsbD_append.trans (by simp)
  simp [byteBits, List.range_succ, BitVec.getMsbD, -BitVec.getLsbD_eq_getElem, hcrc, hlast]

theorem crc16_append_be16 {cfg : Config} (horder : cfg.bitOrder = .msbFirst) (bs : Bytes) :
    crc16 cfg (bs ++ be16 (crc16 cfg bs)) = 0x0000#16 := by
  rw [crc16_eq_lfsrBytes, lfsrBytes_append, ← crc16_eq_lfsrBytes, lfsrBytes_eq_foldl, horder, flatMap_byteBits_be16,
    foldl_lfsrStep_self]

theorem crc7_append_crc7 {cfg : Config} (horder : cfg.bitOrder = .msbFirst) (bs : Bytes) :
    crc7 cfg (bs ++ [crc7 cfg bs ++ 0#1]) = 0x00#7 := by
  rw [crc7_eq_lfsrBytes, lfsrBytes_append, ← crc7_eq_lfsrBytes, lfsrBytes_eq_foldl, horder, List.flatMap_singleton,
    byteBits_append_zero, List.foldl_append, foldl_lfsrStep_self]
  exact lfsrStep_zero cfg.crc7Poly

/-! ## What the CRC Engine's two computers do -/

theorem exec_crc7 (bs : Bytes) (s : State) : exec (.crc7 bs) s =
    .next { s with result := some (.crc7 (crc7 s.config bs)), r7 := none, r16 := none } := rfl

theorem exec_crc16 (bs : Bytes) (s : State) : exec (.crc16 bs) s =
    .next { s with result := some (.crc16 (crc16 s.config bs)), r7 := none, r16 := none } := rfl

/-- Settles O6: both steps are the step of `lfsrStep_eq_ite`, at widths 7 and 16. -/
theorem crcStepsAreGaloisRegisters : Obligations.CrcStepsAreGaloisRegisters :=
  ⟨fun cfg r d => lfsrStep_eq_ite cfg.crc7Poly r d, fun cfg r d => lfsrStep_eq_ite cfg.crc16Poly r d, rfl, rfl⟩

/-- Settles O7: one more byte is a fold over its bits, and zero bytes leave a cleared register. -/
theorem crc7IsBitSerial : Obligations.Crc7IsBitSerial := by
  refine fun bs s => ⟨exec_crc7 bs s, rfl, decode_encode _, crc7_nil _, rfl, fun horder b => ?_, crc7_replicate_zero,
    BitVec.isLt _, by decide +kernel⟩
  rw [crc7_concat, crc7Byte, horder]
  rfl

set_option maxRecDepth 100000 in
/-- The example of R69: 512 bytes are more levels of recursion than the default limit has. -/
theorem crc16_replicate_512_FF : crc16 specConfig (List.replicate 512 0xFF#8) = 0x7FA1#16 := by decide +kernel

/-- Settles O8, as O7. -/
theorem crc16IsBitSerial : Obligations.Crc16IsBitSerial := by
  refine fun bs s => ⟨exec_crc16 bs s, rfl, decode_encode _, crc16_nil _, rfl, fun horder b => ?_, crc16_replicate_zero,
    by decide +kernel, crc16_replicate_512_FF⟩
  rw [crc16_concat, crc16Byte, horder]
  rfl

/-- Settles O9: the register is linear, and two cleared registers add up to a cleared one. -/
theorem crcsAreLinear : Obligations.CrcsAreLinear := by
  refine fun cfg a b hlength => ⟨fun hinit => ?_, fun hinit => ?_⟩
  · simp only [crc7_eq_lfsrBytes, hinit, ← lfsrBytes_zipWith_xor _ _ hlength, BitVec.xor_self]
  · simp only [crc16_eq_lfsrBytes, hinit, ← lfsrBytes_zipWith_xor _ _ hlength, BitVec.xor_self]

/-- Settles O10: the register is still clear after the zero bytes. -/
theorem leadingZeroBytesDoNotChangeCrcs : Obligations.LeadingZeroBytesDoNotChangeCrcs := by
  refine fun cfg n bs => ⟨fun hinit => ?_, fun hinit => ?_⟩
  · simp only [crc7_eq_lfsrBytes, hinit, lfsrBytes_replicate_zero_append]
  · simp only [crc16_eq_lfsrBytes, hinit, lfsrBytes_replicate_zero_append]

/-- Settles O11: a register that is fed its own bits shifts itself out, whatever value it started from. -/
theorem crcResidueIsZero : Obligations.CrcResidueIsZero := by
  refine fun bs s horder => ⟨fun _ => ?_, fun _ => ?_⟩
  · rw [exec_crc16, crc16_append_be16 horder]
  · rw [exec_crc7, crc7_append_crc7 horder]

end Sys2Proof.Machine
end

section
/-! The bit-serial register as a division of polynomials over GF(2) (40_crc.md R70 (d)). -/

namespace Sys2Proof.Machine

open Polynomial

variable {w : Nat}

/-! ## Bits and words as polynomials -/

/-- A bit as a constant polynomial. -/
noncomputable def polyOfBit (d : Bool) : (ZMod 2)[X] := if d then 1 else 0

/-- A word as a polynomial: bit `k` is the coefficient of `x^k`. -/
noncomputable def polyOfWord (v : BitVec w) : (ZMod 2)[X] :=
  (Finset.range w).sum fun k => if v.getLsbD k then X ^ k else 0

/-- A bit list as a polynomial, the first bit the highest power: `M(x)`. -/
noncomputable def polyOfBits (ds : List Bool) : (ZMod 2)[X] :=
  ds.foldl (fun p d => p * X + polyOfBit d) 0

/-- `G(x)`: `x^W` plus the polynomial of the parameter. -/
noncomputable def generator (poly : BitVec w) : (ZMod 2)[X] := X ^ w + polyOfWord poly

theorem polyOfBit_xor (a b : Bool) : polyOfBit (a ^^ b) = polyOfBit a + polyOfBit b := by
  cases a <;> cases b <;> simp [polyOfBit, CharTwo.add_self_eq_zero]

theorem polyOfWord_eq_sum (v : BitVec w) :
    polyOfWord v = ∑ k ∈ Finset.range w, polyOfBit (v.getLsbD k) * X ^ k := by
  simp [polyOfWord, polyOfBit]

theorem polyOfWord_zero : polyOfWord 0#w = 0 := by simp [polyOfWord]

theorem polyOfWord_xor (a b : BitVec w) : polyOfWord (a ^^^ b) = polyOfWord a + polyOfWord b := by
  simp [polyOfWord_eq_sum, polyOfBit_xor, add_mul, Finset.sum_add_distrib]

/-- A word of width `w` has a degree below `w`. -/
theorem degree_polyOfWord_lt (v : BitVec w) : (polyOfWord v).degree < w := by
  refine (degree_sum_le _ _).trans_lt ((Finset.sup_lt_iff (WithBot.bot_lt_coe w)).mpr fun k hk => ?_)
  split
  · rw [degree_X_pow]
    exact Nat.cast_lt.mpr (Finset.mem_range.mp hk)
  · simp

theorem polyOfBits_concat (ds : List Bool) (d : Bool) : polyOfBits (ds ++ [d]) = polyOfBits ds * X + polyOfBit d := by
  simp [polyOfBits]

/-- A left shift multiplies by `x` and drops the top bit, which would be the coefficient of `x^w`. -/
theorem polyOfWord_shiftLeft_one (r : BitVec w) :
    polyOfWord (r <<< 1) = polyOfWord r * X + polyOfBit r.msb * X ^ w := by
  cases w with
  | zero => simp [polyOfWord, polyOfBit, BitVec.eq_nil r]
  | succ n =>
    have hbottom : (r <<< 1).getLsbD 0 = false := by simp
    have hshift (k : Nat) (hk : k < n) : (r <<< 1).getLsbD (k + 1) = r.getLsbD k := by grind
    have hlow : polyOfWord (r <<< 1) = (∑ k ∈ Finset.range n, polyOfBit (r.getLsbD k) * X ^ k) * X := by
      rw [polyOfWord_eq_sum, Finset.sum_range_succ', hbottom, Finset.sum_mul]
      simp only [polyOfBit, Bool.false_eq_true, if_false, zero_mul, add_zero]
      refine Finset.sum_congr rfl fun k hk => ?_
      rw [hshift k (Finset.mem_range.mp hk), pow_succ, mul_assoc]
    have htop : polyOfWord r = (∑ k ∈ Finset.range n, polyOfBit (r.getLsbD k) * X ^ k) + polyOfBit r.msb * X ^ n := by
      rw [polyOfWord_eq_sum, Finset.sum_range_succ, BitVec.msb_eq_getLsbD_last, Nat.add_sub_cancel]
    rw [hlow, htop]
    linear_combination -CharTwo.add_self_eq_zero (polyOfBit r.msb * X ^ (n + 1))

/-! ## The division -/

theorem generator_monic (poly : BitVec w) : (generator poly).Monic :=
  monic_X_pow_add (degree_polyOfWord_lt poly)

theorem degree_generator (poly : BitVec w) : (generator poly).degree = w := by
  rw [generator, degree_add_eq_left_of_degree_lt] <;> simp [degree_polyOfWord_lt]

/-- A step multiplies by `x`, brings in the next bit at `x^W`, and takes off `G(x)` when the feedback bit is set. -/
theorem polyOfWord_lfsrStep (poly r : BitVec w) (d : Bool) : polyOfWord (lfsrStep poly r d) =
    polyOfWord r * X + polyOfBit d * X ^ w + polyOfBit (r.msb ^^ d) * generator poly := by
  have hselect (b : Bool) : polyOfWord (if b = true then poly else 0#w) = polyOfBit b * polyOfWord poly := by
    cases b <;> simp [polyOfBit, polyOfWord_zero]
  rw [lfsrStep_eq_xor, polyOfWord_xor, hselect, polyOfWord_shiftLeft_one, polyOfBit_xor, generator]
  linear_combination -CharTwo.add_self_eq_zero (polyOfBit d * X ^ w)

/-- The register is congruent to `M(x) * x^W` modulo `G(x)` after every bit. -/
theorem generator_dvd_foldl_sub (poly : BitVec w) (ds : List Bool) :
    generator poly ∣ polyOfWord (ds.foldl (lfsrStep poly) 0#w) - polyOfBits ds * X ^ w := by
  induction ds using List.reverseRecOn with
  | nil => simp [polyOfWord_zero, polyOfBits]
  | append_singleton ds d ih =>
    obtain ⟨q, hq⟩ := ih
    have hr := sub_eq_iff_eq_add.mp hq
    rw [List.foldl_append, List.foldl_cons, List.foldl_nil, polyOfWord_lfsrStep, polyOfBits_concat, hr]
    exact ⟨q * X + polyOfBit ((ds.foldl (lfsrStep poly) 0#w).msb ^^ d), by ring⟩

/-- The register is the remainder. -/
theorem polyOfWord_lfsrBytes (poly : BitVec w) (o : BitOrder) (bs : Bytes) :
    polyOfWord (lfsrBytes poly o 0#w bs) = (polyOfBits (bs.flatMap (byteBits o)) * X ^ w) %ₘ generator poly := by
  have hreduced : (polyOfWord (lfsrBytes poly o 0#w bs)).degree < (generator poly).degree := by
    rw [degree_generator]
    exact degree_polyOfWord_lt _
  rw [← (modByMonic_eq_self_iff (generator_monic poly)).mpr hreduced, lfsrBytes_eq_foldl]
  exact modByMonic_eq_of_dvd_sub (generator_monic poly) (generator_dvd_foldl_sub poly _)

/-- Settles O12: both computers are the register, cleared before the list. -/
theorem crcsArePolynomialRemainders : Obligations.CrcsArePolynomialRemainders := by
  refine fun cfg bs => ⟨fun hinit => ?_, fun hinit => ?_⟩
  · rw [crc7_eq_lfsrBytes, hinit]
    exact polyOfWord_lfsrBytes cfg.crc7Poly cfg.bitOrder bs
  · rw [crc16_eq_lfsrBytes, hinit]
    exact polyOfWord_lfsrBytes cfg.crc16Poly cfg.bitOrder bs

end Sys2Proof.Machine
end

section
/-! The trailer byte (40_crc.md R71) and the formats that a CRC closes (R72, R74). -/

namespace Sys2Proof.Machine

/-- REG_SEAL ignores the last byte of an image (R72). -/
@[simp] theorem regSeal_concat (cfg : Config) (img : Bytes) (last : Byte) :
    regSeal cfg (img ++ [last]) = img ++ [trailer (crc7 cfg img)] := by
  simp [regSeal]

theorem trailer_eq_shiftLeft_or (c : BitVec 7) : trailer c = (c.setWidth 8 <<< 1) ||| 0x01#8 := by
  ext k hk; grind [trailer]

/-- Settles O13: a non-empty image is its bytes before the last one, and the last one, which is replaced. -/
theorem trailerHoldsCrcAndEndBit : Obligations.TrailerHoldsCrcAndEndBit := by
  refine ⟨fun c => ⟨trailer_eq_shiftLeft_or c, trailer_crc c, trailer_end c⟩, fun cfg cmd arg => rfl,
    fun cfg img himg => ?_⟩
  rw [← List.dropLast_concat_getLast himg, regSeal_concat]
  simp

/-- Settles O14: sealing an image forgets its last byte, and so it does with the trailer it put there. -/
theorem regSealClosesAnImage : Obligations.RegSealClosesAnImage := by
  intro img last s
  have hsealed : exec (.regSeal (img ++ [last])) s = s.returns (.bytes (regSeal s.config (img ++ [last]))) :=
    if_neg (by simp)
  refine ⟨?_, rfl, rfl, decode_encode _, ?_, ?_, ?_⟩
  · rw [hsealed, regSeal_concat]
    rfl
  · simp only [regSeal_concat]
  · exact regSeal_concat specConfig [] last
  · rw [List.replicate_succ', regSeal_concat, crc7_replicate_zero rfl]
    rfl

/-- Settles O15: the length decides between the block with its CRC-16 and the refusal. -/
theorem dataBlockEncodeAppendsCrc : Obligations.DataBlockEncodeAppendsCrc := by
  refine fun blk s => ⟨fun hmin hmax => if_neg (by omega), fun hlength => if_pos hlength, rfl, rfl, decode_encode _,
    dataBlock_length _ _, by decide +kernel, ?_⟩
  rw [dataBlock, crc16_replicate_512_FF]
  rfl

end Sys2Proof.Machine
end

section
/-! The command frame's operations without a state (41_command_frame.md R81 to R85): CMD_ENCODE, CMD_DECODE and CMD_CHECK. -/

namespace Sys2Proof.Machine

/-! ## CMD_ENCODE and CMD_DECODE -/

/-- The fixed bits of a frame are good exactly with start bit 0, transmission bit 1 and end bit 1 (30_encoding.md R51). -/
theorem frameFields_frameOk (b0 b1 b2 b3 b4 b5 : Byte) : (frameFields b0 b1 b2 b3 b4 b5).frameOk =
    decide (b0.getLsbD 7 = false ∧ b0.getLsbD 6 = true ∧ b5.getLsbD 0 = true) := by
  simp [frameFields, Bool.and_assoc]

/-- CMD_DECODE returns the fields of a frame that has them. -/
theorem exec_cmdDecode_of_splitFrame {frame : Bytes} {f : FrameFields} (h : splitFrame frame = some f) (s : State) :
    exec (.cmdDecode frame) s = s.returns (.fields f.cmd f.arg f.crc f.frameOk) := by
  simp [exec, execCmdDecode, h]

/-- Settles O16: the header and the trailer are those of the definition, and the examples are closed. -/
theorem cmdEncodeBuildsTheFrame : Obligations.CmdEncodeBuildsTheFrame := by
  have hprefix : ∀ cmd : BitVec 6, (0b01#2 ++ cmd : BitVec (2 + 6)) = 0x40#8 ||| cmd.setWidth 8 := by decide
  exact fun cmd arg s => ⟨rfl, rfl, decode_encode _, rfl, hprefix cmd, by decide +kernel, by decide +kernel,
    by decide +kernel⟩

/-- Settles O17: six bytes have fields, no other length has, and an encoded command is the frame of its fields. -/
theorem cmdDecodeSplitsTheFrame : Obligations.CmdDecodeSplitsTheFrame := by
  refine fun s frame b0 b1 b2 b3 b4 b5 cmd arg => ⟨?_, fun hlength => ?_, rfl, decode_encode _, fun hheader => ?_,
    rfl, rfl, rfl, rfl⟩
  · rw [← frameFields_frameOk b0 b1 b2 b3 b4 b5]
    exact exec_cmdDecode_of_splitFrame (f := frameFields b0 b1 b2 b3 b4 b5) rfl s
  · exact exec_of_not_wellFormed (decide_eq_false hlength)
  · rw [commandFrame_eq_frameOf hheader]
    exact exec_cmdDecode_of_splitFrame (splitFrame_frameOf _ _ _) s

/-! ## One changed bit changes the CRC-7 (R85) -/

/-- A fold whose step is injective in the accumulator is injective in it. -/
theorem foldl_injective {α β : Type} {f : β → α → β} (hinj : ∀ a, Function.Injective (f · a)) (l : List α) :
    Function.Injective (fun r => l.foldl f r) := by
  induction l with
  | nil => exact fun _ _ h => h
  | cons a l ih => exact fun _ _ h => hinj a (ih h)

/-- Such a fold tells two lists apart that differ in one place, where the step
tells the two elements apart. -/
theorem foldl_modify_ne {α β : Type} {f : β → α → β} {g : α → α} (hinj : ∀ a, Function.Injective (f · a))
    (hg : ∀ r a, f r (g a) ≠ f r a) {l : List α} {n : Nat} (hn : n < l.length) (r : β) :
    (l.modify n g).foldl f r ≠ l.foldl f r := by
  induction l generalizing n r with
  | nil => cases hn
  | cons a l ih => cases n with
    | zero => exact fun h => hg r a (foldl_injective hinj l h)
    | succ n => exact ih (Nat.lt_of_succ_lt_succ hn) (f r a)

section
variable {w : Nat} {poly : BitVec w} (hpoly : poly.getLsbD 0 = true)
include hpoly

/-- With a generator that has a constant term, the feedback bit is the bottom bit of the register after the step. -/
theorem lfsrStep_getLsbD_zero (r : BitVec w) (d : Bool) : (lfsrStep poly r d).getLsbD 0 = (r.msb ^^ d) := by
  rw [lfsrStep_eq_xor, BitVec.getLsbD_xor]
  cases r.msb ^^ d <;> simp [-BitVec.getLsbD_eq_getElem, hpoly]

/-- So the step loses nothing of the register: the top bit it shifts out is the feedback bit without the input. -/
theorem lfsrStep_injective (d : Bool) : Function.Injective (lfsrStep poly · d) := by
  intro r r' h
  have htop : r.msb = r'.msb := by
    have hbottom := congrArg (fun v : BitVec w => v.getLsbD 0) h
    simpa only [lfsrStep_getLsbD_zero hpoly, Bool.xor_right_inj, Bool.xor_left_inj] using hbottom
  have hshift : r <<< 1 = r' <<< 1 := by
    simpa only [lfsrStep_eq_xor, htop, BitVec.xor_left_inj] using h
  ext k hk
  by_cases hlast : k + 1 < w
  · have hnext := congrArg (fun v : BitVec w => v.getLsbD (k + 1)) hshift
    simpa [hlast, hk] using hnext
  · obtain rfl : k = w - 1 := by omega
    simpa [BitVec.msb_eq_getLsbD_last, hk] using htop

theorem lfsrStep_not_ne (r : BitVec w) (d : Bool) : lfsrStep poly r (!d) ≠ lfsrStep poly r d := by
  intro h
  have hbottom := congrArg (fun v : BitVec w => v.getLsbD 0) h
  simp [lfsrStep_getLsbD_zero hpoly] at hbottom

end

/-- A byte with one bit changed gives the same bits to the computers but one. -/
theorem exists_byteBits_modify (o : BitOrder) (b : Byte) {k : Nat} (hk : k < 8) :
    ∃ n < 8, byteBits o (b ^^^ (1#8 <<< k)) = (byteBits o b).modify n (!·) := by
  cases o with
  | msbFirst =>
    refine ⟨7 - k, by omega, ?_⟩
    interval_cases k <;> simp [byteBits]
  | lsbFirst =>
    refine ⟨k, hk, ?_⟩
    interval_cases k <;> simp [byteBits]

/-- With a generator that has a constant term, two lists of bytes that differ in one bit leave different registers. -/
theorem lfsrBytes_modify_bit_ne {w : Nat} {poly : BitVec w} (hpoly : poly.getLsbD 0 = true) (o : BitOrder)
    {bs : Bytes} {n k : Nat} (hn : n < bs.length) (hk : k < 8) (r : BitVec w) :
    lfsrBytes poly o r (bs.modify n (· ^^^ (1#8 <<< k))) ≠ lfsrBytes poly o r bs := by
  refine foldl_modify_ne (fun b => foldl_injective (lfsrStep_injective hpoly) (byteBits o b)) (fun r b => ?_) hn r
  obtain ⟨j, hj, hbits⟩ := exists_byteBits_modify o b hk
  rw [hbits]
  exact foldl_modify_ne (lfsrStep_injective hpoly) (lfsrStep_not_ne hpoly) (by simpa using hj) r

theorem crc7_modify_bit_ne {cfg : Config} (hpoly : cfg.crc7Poly = 0x09#7) {bs : Bytes} {n k : Nat}
    (hn : n < bs.length) (hk : k < 8) : crc7 cfg (bs.modify n (· ^^^ (1#8 <<< k))) ≠ crc7 cfg bs :=
  lfsrBytes_modify_bit_ne (by rw [hpoly]; rfl) cfg.bitOrder hn hk cfg.crc7Init

/-- A bit of the argument is a bit of one byte of the header (R81, 20_memory.md R33). -/
theorem exists_header_modify (cfg : Config) (cmd : BitVec 6) (arg : BitVec 32) {k : Nat} (hk : k < 32) :
    ∃ n < 5, header cfg cmd (arg ^^^ (1#32 <<< k)) = (header cfg cmd arg).modify n (· ^^^ (1#8 <<< (k % 8))) := by
  refine ⟨4 - k / 8, by omega, ?_⟩
  interval_cases k <;> simp [header, be32, BitVec.extractLsb'_xor]

/-- Settles O19: a passing field is the CRC-7 of its header, so one changed bit, which is a changed bit of a byte list,
makes it fail. -/
theorem cmdCheckComparesTheCrc : Obligations.CmdCheckComparesTheCrc := by
  refine fun cmd arg crc s => ⟨rfl, rfl, decode_encode _, ?_, fun hpoly k hk hpass => ?_,
    fun hpoly h n k hlength hn hk => crc7_modify_bit_ne hpoly (hlength ▸ hn) hk, by decide +kernel, by decide +kernel⟩
  · exact ⟨_, crcMatches_iff.mpr rfl, fun c hc => (crcMatches_iff.mp hc).symm⟩
  · obtain ⟨n, hn, hheader⟩ := exists_header_modify s.config cmd arg hk
    rw [← Bool.not_eq_true, crcMatches_iff, hheader, ← crcMatches_iff.mp hpass]
    exact crc7_modify_bit_ne hpoly hn (Nat.mod_lt k (by omega))

end Sys2Proof.Machine
end

section
/-! The command transactions (41_command_frame.md R86 to R93): one equation for each way through FR_COMMAND and
FR_FRAME. -/

namespace Sys2Proof.Machine

variable {s : State} {cmd : BitVec 6} {arg : BitVec 32} {crc : BitVec 7} {frame : Bytes} {f : FrameFields}

/-! ## The dispatcher (R86) -/

/-- Settles O20: a scripted answer and a free one are the two branches of the call; what an answer writes is said by the
rules of `dispatcherWrites`. -/
theorem dispatcherAnswersAreInputs : Obligations.DispatcherAnswersAreInputs := by
  intro s cmd arg
  obtain ⟨henabled, hinserted, hmedium, hspi⟩ := Card.dispatcherWrites_flags s.config (s.dispatchAnswer cmd arg) s.card
  have hocr := Card.dispatcherWrites_ocr s.config (s.dispatchAnswer cmd arg) s.card
  have htop (h : BitVec 1) (v : BitVec 31) : (h ++ v).getLsbD 31 = h.getLsbD 0 := by
    grind
  refine ⟨fun a rest hscript => ?_, fun hscript => ?_, henabled, hinserted, hmedium, hspi, fun v hlow => ?_,
    fun hassert => ?_, fun hreset hset => ?_⟩
  · have hanswer : s.dispatchAnswer cmd arg = a := by simp [State.dispatchAnswer, hscript]
    exact ⟨hanswer, by simp [State.dispatched, State.useAnswer, State.setCard, hscript, hanswer]⟩
  · exact ⟨by simp [State.dispatchAnswer, hscript], by simp [State.dispatched, State.useAnswer, State.setCard, hscript]⟩
  · rw [State.dispatched_card, hocr, hlow]
    exact BitVec.extractLsb'_append_eq_right
  · rw [State.dispatched_card, hocr, htop, if_pos hassert]
    rfl
  · rw [State.dispatched_card, hocr, htop, hreset]
    split
    · rfl
    · simpa using hset

/-! ## The gate and the check -/

theorem Card.gateOpen_iff (c : Card) :
    c.gateOpen = true ↔ c.enabled = true ∧ c.inserted = true ∧ c.hasMedium = true := by
  simp [Card.gateOpen, and_assoc]

theorem State.gated_of_closed (h : s.card.gateOpen = false) (a : Answer) :
    s.gated a = s.returns (.transaction .gated []) := by simp [State.gated, h]

theorem State.gated_of_open (h : s.card.gateOpen = true) (a : Answer) : s.gated a = a := by simp [State.gated, h]

theorem exec_frCommand_of_closed (h : s.card.gateOpen = false) :
    exec (.frCommand cmd arg crc) s = s.returns (.transaction .gated []) := State.gated_of_closed h _

theorem exec_frCommand_of_mismatch (hopen : s.card.gateOpen = true) (hcheck : s.config.checkCmdCrc = true)
    (hcrc : crcMatches s.config cmd arg crc = false) : exec (.frCommand cmd arg crc) s = s.framingError := by
  refine (State.gated_of_open hopen _).trans ?_
  simp [State.checkAndDispatch, hcheck, hcrc]

theorem exec_frCommand_of_good (hopen : s.card.gateOpen = true)
    (hgood : s.config.checkCmdCrc = false ∨ crcMatches s.config cmd arg crc = true) :
    exec (.frCommand cmd arg crc) s = s.dispatchAndEncode cmd arg := by
  refine (State.gated_of_open hopen _).trans (if_neg ?_)
  obtain h | h := hgood <;> simp [h]

theorem exec_frFrame_of_splitFrame (h : splitFrame frame = some f) : exec (.frFrame frame) s =
    s.gated (if s.config.checkCmdCrc && !f.frameOk then s.framingError else s.checkAndDispatch f.cmd f.arg f.crc) := by
  simp [exec, execFrFrame, h]

theorem exec_frFrame_of_closed (hsplit : splitFrame frame = some f) (h : s.card.gateOpen = false) :
    exec (.frFrame frame) s = s.returns (.transaction .gated []) := by
  rw [exec_frFrame_of_splitFrame hsplit, State.gated_of_closed h]

theorem exec_frFrame_of_badBits (hsplit : splitFrame frame = some f) (hopen : s.card.gateOpen = true)
    (hcheck : s.config.checkCmdCrc = true) (hbits : f.frameOk = false) :
    exec (.frFrame frame) s = s.framingError := by
  rw [exec_frFrame_of_splitFrame hsplit, State.gated_of_open hopen]
  simp [hcheck, hbits]

/-- With good fixed bits, or with the check off, a frame is the command of its fields, at an open gate and at a closed
one. -/
theorem exec_frFrame_of_goodBits (hsplit : splitFrame frame = some f)
    (hgood : s.config.checkCmdCrc = false ∨ f.frameOk = true) :
    exec (.frFrame frame) s = exec (.frCommand f.cmd f.arg f.crc) s := by
  have hpass : ¬ (s.config.checkCmdCrc && !f.frameOk) = true := by
    obtain h | h := hgood <;> simp [h]
  rw [exec_frFrame_of_splitFrame hsplit, if_neg hpass]
  rfl

/-- The frame of an encoded command is that command with its correct CRC field (R93, 30_encoding.md R63). -/
theorem exec_frFrame_commandFrame (hheader : s.config.hdrPrefix = 0b01#2) (cmd : BitVec 6) (arg : BitVec 32) :
    exec (.frFrame (commandFrame s.config cmd arg)) s = exec (commandRequest s.config cmd arg) s := by
  have hsplit := splitFrame_frameOf cmd arg (crc7 s.config (header s.config cmd arg))
  rw [commandFrame_eq_frameOf hheader, exec_frFrame_of_goodBits hsplit (.inr rfl)]
  rfl

/-! ## Steps 3 to 8 -/

/-- A code is reserved exactly from 9 on (30_encoding.md R53, 42_response.md R110). -/
theorem ofCode_eq_none_iff {code : BitVec 4} : RespTag.ofCode code = none ↔ 0x9 ≤ code.toNat := by
  rw [← Option.not_isSome_iff_eq_none, RespTag.ofCode_isSome]
  simp

theorem exec_frCommand_of_reservedTag (hopen : s.card.gateOpen = true)
    (hgood : s.config.checkCmdCrc = false ∨ crcMatches s.config cmd arg crc = true)
    (htag : RespTag.ofCode (s.dispatchAnswer cmd arg).tag = none) :
    exec (.frCommand cmd arg crc) s = .refused .badDispatcherTag := by
  rw [exec_frCommand_of_good hopen hgood]
  simp [State.dispatchAndEncode, htag]

/-- Step 8 encodes from the card the dispatcher left and clears after it (R90). -/
theorem exec_frCommand_of_tag {tag : RespTag} (hopen : s.card.gateOpen = true)
    (hgood : s.config.checkCmdCrc = false ∨ crcMatches s.config cmd arg crc = true)
    (htag : RespTag.ofCode (s.dispatchAnswer cmd arg).tag = some tag) :
    exec (.frCommand cmd arg crc) s =
      let e := respEncode s.config tag (s.dispatchAnswer cmd arg).pattern (s.dispatched cmd arg).card
      .next (((s.dispatched cmd arg).setCard (e.card.afterTag s.config tag)).finish
        (.transaction (.tag tag) e.out)) := by
  rw [exec_frCommand_of_good hopen hgood]
  simp only [State.dispatchAndEncode, htag, State.stepEight, State.dispatched_config]

/-- Settles O22: a closed gate comes before the check, and a frame of six bytes has fields. -/
theorem closedGateWritesNothing : Obligations.ClosedGateWritesNothing := by
  intro s cmd arg crc frame hflags
  have hclosed : s.card.gateOpen = false := by
    obtain h | h | h := hflags <;> simp [Card.gateOpen, h]
  refine ⟨exec_frCommand_of_closed hclosed, fun hlength => ?_⟩
  obtain ⟨f, hsplit⟩ := splitFrame_of_length hlength
  exact exec_frFrame_of_closed hsplit hclosed

/-- Settles O21: each way through FR_COMMAND is one of the equations above, and the example is the last of them. -/
theorem frCommandRunsItsSteps : Obligations.FrCommandRunsItsSteps := by
  intro cmd arg crc s open_ good answer after
  have hopen : open_ ↔ s.card.gateOpen = true := s.card.gateOpen_iff.symm
  have hgood : good ↔ (s.config.checkCmdCrc = false ∨ crcMatches s.config cmd arg crc = true) :=
    or_congr_right crcMatches_iff.symm
  refine ⟨fun hclosed => ?_, fun ho hbad => ?_, fun ho hg htag => ?_, fun ho hg tag htag => ?_, rfl, decode_encode _,
    ?_⟩
  · rw [hopen, Bool.not_eq_true] at hclosed
    exact exec_frCommand_of_closed hclosed
  · rw [hgood, not_or, Bool.not_eq_false, Bool.not_eq_true] at hbad
    exact exec_frCommand_of_mismatch (hopen.mp ho) hbad.1 hbad.2
  · exact exec_frCommand_of_reservedTag (hopen.mp ho) (hgood.mp hg) htag
  · refine (exec_frCommand_of_tag (hopen.mp ho) (hgood.mp hg) htag).trans ?_
    simp only [Card.afterTag_eq]
    rfl
  · rintro rfl rfl rfl hconfig ho hstatus htag hafter
    have hcrc : crcMatches s.config 13 0x45670000 0x51 = true := by
      rw [hconfig]
      decide +kernel
    have hend : exec (.frCommand 13 0x45670000 0x51) s = .next ((after.setCard (after.card.setStatus
        (clearOnValid s.config (clearOnRead s.config after.card.cardStatus)))).finish
          (.transaction (.tag .r1) (be32 after.card.cardStatus))) :=
      exec_frCommand_of_tag (hopen.mp ho) (.inr hcrc) (congrArg RespTag.ofCode htag)
    rw [hend, hafter, hstatus, hconfig]
    rfl

/-! ## Framing errors (R89) -/

/-- `ST_COM_CRC_ERROR` is bit 23 alone (10_state.md R17). -/
theorem comCrcError_getLsbD (k : Nat) : (0x00800000#32).getLsbD k = decide (k = 23) := by
  have hbit : 0x00800000#32 = BitVec.twoPow 32 23 := by decide
  rw [hbit, BitVec.getLsbD_twoPow]
  grind

/-- Settles O24: the transaction is a framing error, which sets bit 23 alone. -/
theorem crcMismatchIsAFramingError : Obligations.CrcMismatchIsAFramingError := by
  intro s cmd arg crc hopen hcheck hcrc
  have hmismatch : crcMatches s.config cmd arg crc = false := by
    rwa [← Bool.not_eq_true, crcMatches_iff]
  refine ⟨_, exec_frCommand_of_mismatch hopen hcheck hmismatch, rfl, rfl, rfl, fun hbit => ?_⟩
  have hbits (k : Nat) : (s.card.cardStatus ||| s.config.stComCrcError).getLsbD k =
      (s.card.cardStatus.getLsbD k || decide (k = 23)) := by
    rw [BitVec.getLsbD_or, hbit, comCrcError_getLsbD]
  exact ⟨(hbits 23).trans (by simp), fun k hk => (hbits k).trans (by simp [hk])⟩

/-- Settles O25: for each code, the equation of step 8 computes at its tag. -/
theorem stepEightEncodesThenClears : Obligations.StepEightEncodesThenClears := by
  intro s cmd arg crc after d code ends hopen hcrc
  have hend (tag : RespTag) (hcode : code = tag.code) := exec_frCommand_of_tag hopen (.inr hcrc)
    ((congrArg RespTag.ofCode hcode).trans tag.ofCode_code)
  exact ⟨hend .r0, hend .r1, hend .r1b, hend .r2Cid, hend .r2Csd, hend .r3, hend .r6, hend .r7, hend .illegal,
    fun hcode => exec_frCommand_of_reservedTag hopen (.inr hcrc) (ofCode_eq_none_iff.mpr hcode)⟩

/-! ## FR_FRAME (R93) -/

/-- Settles O27: each clause is one of the equations above; the fixed bits of a frame are those of `frameFields`. -/
theorem frFrameChecksInOrder : Obligations.FrFrameChecksInOrder := by
  intro s frame b0 b1 b2 b3 b4 b5 cmd arg fixed
  have hsplit : splitFrame [b0, b1, b2, b3, b4, b5] = some (frameFields b0 b1 b2 b3 b4 b5) := rfl
  have hfixed := frameFields_frameOk b0 b1 b2 b3 b4 b5
  refine ⟨fun hlength => exec_of_not_wellFormed (decide_eq_false hlength), exec_frFrame_of_closed hsplit,
    fun hopen hcheck hbad => ?_, fun _ hgood => ?_, fun hheader => exec_frFrame_commandFrame hheader cmd arg,
    fun hopen hconfig => ?_, rfl, decode_encode _⟩
  · exact exec_frFrame_of_badBits hsplit hopen hcheck (hfixed.trans (decide_eq_false hbad))
  · have hok := hgood.imp_right fun hbits => hfixed.trans (decide_eq_true hbits)
    rw [exec_frFrame_of_goodBits hsplit hok]
    rfl
  · have hcheck : s.config.checkCmdCrc = true := by rw [hconfig]; rfl
    have hbit : s.config.stComCrcError.getLsbD 23 = true := by rw [hconfig]; rfl
    have hbad : splitFrame [0x40, 0x00, 0x00, 0x00, 0x00, 0x94] = some ⟨0, 0, 0x4A, false⟩ := rfl
    refine ⟨_, exec_frFrame_of_badBits hbad hopen hcheck rfl, ?_, rfl⟩
    simp [setCrcError, -BitVec.getLsbD_eq_getElem, hbit]

/-- Settles O28: the frame is the command with its correct CRC field, and step 8 answers with the tag. -/
theorem frFrameCompletes : Obligations.FrFrameCompletes := by
  intro s cmd arg tag hheader hopen hcode
  have htag : RespTag.ofCode (s.dispatchAnswer cmd arg).tag = some tag := by rw [hcode, RespTag.ofCode_code]
  have hend := exec_frCommand_of_tag hopen (.inr (crcMatches_iff.mpr rfl)) htag
  exact ⟨_, _, (exec_frFrame_commandFrame hheader cmd arg).trans hend, rfl, respEncode_out_length _ _ _ _, rfl, rfl⟩

/-! ## Without the check (R92) -/

/-- Step 8 only clears status bits. -/
theorem State.stepEight_status_and_not {s t : State} {tag : RespTag} {pattern : BitVec 32}
    (h : s.stepEight tag pattern = .next t) : t.card.cardStatus &&& ~~~s.card.cardStatus = 0#32 := by
  have hand (v m : BitVec 32) (h : v &&& ~~~s.card.cardStatus = 0#32) : v &&& m &&& ~~~s.card.cardStatus = 0#32 := by
    rw [BitVec.and_assoc, BitVec.and_comm m, ← BitVec.and_assoc, h, BitVec.zero_and]
  have hself : s.card.cardStatus &&& ~~~s.card.cardStatus = 0#32 := BitVec.and_not_self _
  have hencoded : statusEncoded s.config tag s.card.cardStatus &&& ~~~s.card.cardStatus = 0#32 := by
    unfold statusEncoded
    split_ifs
    · exact hand _ _ hself
    · exact hand _ _ hself
    · exact hself
  rw [(State.stepEight_next h).2]
  split_ifs
  · exact hencoded
  · exact hand _ _ hencoded

/-- Settles O26: with the check off neither the CRC field nor the fixed bits are looked at, and a transaction that goes on
ends by step 8. -/
theorem uncheckedCrcIsDispatched : Obligations.UncheckedCrcIsDispatched := by
  intro s cmd arg crc b0 b1 b2 b3 b4 b5 hcheck hopen
  have hcommand (cmd : BitVec 6) (arg : BitVec 32) (crc : BitVec 7) := exec_frCommand_of_good (cmd := cmd) (arg := arg)
    (crc := crc) hopen (.inl hcheck)
  have hframe : exec (.frFrame [b0, b1, b2, b3, b4, b5]) s =
      s.dispatchAndEncode (b0.extractLsb' 0 6) (b1 ++ b2 ++ b3 ++ b4) :=
    (exec_frFrame_of_goodBits rfl (.inl hcheck)).trans (hcommand _ _ _)
  have hstatus (cmd : BitVec 6) (arg : BitVec 32) (t : State) (h : s.dispatchAndEncode cmd arg = .next t) :
      t.card.cardStatus &&& ~~~(s.dispatched cmd arg).card.cardStatus = 0#32 := by
    obtain ⟨tag, -, hstep⟩ := State.dispatchAndEncode_next h
    exact State.stepEight_status_and_not hstep
  exact ⟨hcommand cmd arg crc, hframe, fun t h => hstatus _ _ t (hcommand cmd arg crc ▸ h),
    fun t h => hstatus _ _ t (hframe ▸ h)⟩

/-! ## The CRC-error bit (R96) -/

/-- The four bytes of the word carry bit 23 in bit 7 of the second. -/
theorem be32_comCrcError (v : BitVec 32) :
    ∃ b0 b1 b2 b3 : Byte, be32 v = [b0, b1, b2, b3] ∧ b1.getLsbD 7 = v.getLsbD 23 :=
  ⟨_, _, _, _, rfl, by simp⟩

/-- The projection carries bit 23 at its top, so that it is in bit 7 of the third byte of R6 (30_encoding.md R55). -/
theorem be16_status16_comCrcError (rca : BitVec 16) (v : BitVec 32) :
    ∃ b0 b1 b2 b3 : Byte, be16 rca ++ be16 (status16 v) = [b0, b1, b2, b3] ∧ b2.getLsbD 7 = v.getLsbD 23 :=
  ⟨_, _, _, _, rfl, by grind [status16]⟩

/-- Settles O29: GATED leaves the word, a framing error sets bits in it, and step 8 encodes the word the dispatcher left
before it clears bit 23 with the others of `MASK_CLEAR_ON_VALID`. -/
theorem crcErrorIsExposedThenCleared : Obligations.CrcErrorIsExposedThenCleared := by
  intro i s t o out hi _ hvalid hset hleft h hresult
  obtain hgated | herror | ⟨cmd, arg, tag, pattern, -, hstep⟩ := exec_next_of_command hi h
  · cases hgated
    cases hresult
    exact ⟨fun _ => hset, nofun, nofun, nofun⟩
  · cases herror
    cases hresult
    have hkept : (s.card.cardStatus ||| s.config.stComCrcError).getLsbD 23 = true := by
      rw [BitVec.getLsbD_or, hset, Bool.true_or]
    exact ⟨fun _ => hkept, nofun, nofun, fun tag htag hne => absurd (by cases htag; rfl) hne⟩
  · have hstatus := (State.stepEight_next hstep).2
    rw [State.stepEight_result hstep] at hresult
    cases hresult
    have hd := hleft cmd arg
    refine ⟨?_, ?_, ?_, fun tag' htag hne => ?_⟩
    · rintro (htag | htag) <;> cases htag
      rw [hstatus]
      exact hd
    · rintro (htag | htag) <;> cases htag <;> exact hd ▸ be32_comCrcError (s.dispatched cmd arg).card.cardStatus
    · intro htag
      cases htag
      exact hd ▸ be16_status16_comCrcError (s.dispatched cmd arg).card.rca (s.dispatched cmd arg).card.cardStatus
    · cases htag
      rw [hstatus, if_neg hne, clearOnValid, BitVec.getLsbD_and, State.dispatched_config, BitVec.getLsbD_not, hvalid]
      simp

end Sys2Proof.Machine
end

section
/-! What no operation writes (41_command_frame.md R95) and what no operation reads (R83). -/

namespace Sys2Proof.Machine

/-! ## The gate flags and `spi` -/

/-- A transaction that ends in `t` from `s` leaves the card's flags. -/
theorem State.EndsIn.flags {s t : State} (h : s.EndsIn t) : t.card.enabled = s.card.enabled ∧
    t.card.inserted = s.card.inserted ∧ t.card.hasMedium = s.card.hasMedium ∧ t.card.spi = s.card.spi := by
  obtain ⟨status, result, rfl⟩ := h
  exact ⟨rfl, rfl, rfl, rfl⟩

/-- Settles O40: the operation ends from the state it began in, or from the one the dispatcher left, which has its
flags. -/
theorem noOperationWritesTheGateFlags : Obligations.NoOperationWritesTheGateFlags := by
  intro i s t h
  obtain hends | ⟨cmd, arg, -, -, hends⟩ := exec_next h
  · exact hends.flags
  · have hflags := hends.flags
    simp only [State.dispatched_card, Card.dispatcherWrites_flags] at hflags
    exact hflags

/-! ## The dispatcher's fields

An operation passes `disp` on, or the dispatcher replaces it. So every shared operation gives the same from a state with
other values there, up to `disp` at its end. -/

/-- The machine with other values in the dispatcher's fields. -/
def State.setDisp (s : State) (d : DispFields) : State := s.setCard (s.card.setDisp d)

/-- The same answer with the dispatcher's fields `d` in its next state. -/
def withDisp (d : DispFields) : Answer → Answer := mapNext fun t => t.setDisp d

/-- An answer replaces the fields by its reset, by its own values, or not at all. -/
theorem Card.dispatcherWrites_setDisp (cfg : Config) (a : DispatcherAnswer) (c : Card) (d e : DispFields) :
    ((c.setDisp d).dispatcherWrites cfg a).setDisp e = (c.dispatcherWrites cfg a).setDisp e := by
  unfold Card.dispatcherWrites
  cases a.reset <;> cases a.cardStatus <;> cases a.rca <;> cases a.ocrLow <;> cases a.disp <;>
    cases a.assertPowerUp <;> rfl

theorem State.returns_setDisp (s : State) (d e : DispFields) (r : PortResult) :
    withDisp e ((s.setDisp d).returns r) = withDisp e (s.returns r) := rfl

theorem State.framingError_setDisp (s : State) (d e : DispFields) :
    withDisp e (s.setDisp d).framingError = withDisp e s.framingError := rfl

/-- Step 8 passes the fields on. -/
theorem State.stepEight_setDisp (s : State) (d : DispFields) (tag : RespTag) (pattern : BitVec 32) :
    (s.setDisp d).stepEight tag pattern = withDisp d (s.stepEight tag pattern) := by
  cases tag <;> rfl

theorem State.gated_setDisp {s : State} {d e : DispFields} {a a' : Answer} (h : withDisp e a' = withDisp e a) :
    withDisp e ((s.setDisp d).gated a') = withDisp e (s.gated a) := by
  obtain ⟨hopen, heq⟩ | ⟨hclosed, heq⟩ := s.gated_cases a <;> rw [heq]
  · rwa [State.gated_of_open (s := s.setDisp d) hopen]
  · rw [State.gated_of_closed (s := s.setDisp d) hclosed]
    exact s.returns_setDisp d e _

section
variable {s : State} (hscript : s.answers ≠ [])
include hscript

theorem State.dispatchAnswer_setDisp (d : DispFields) (cmd : BitVec 6) (arg : BitVec 32) :
    (s.setDisp d).dispatchAnswer cmd arg = s.dispatchAnswer cmd arg := by
  obtain ⟨a, rest, hcons⟩ := List.exists_cons_of_ne_nil hscript
  simp [State.dispatchAnswer, State.setDisp, hcons]

theorem State.dispatched_setDisp (d e : DispFields) (cmd : BitVec 6) (arg : BitVec 32) :
    ((s.setDisp d).dispatched cmd arg).setDisp e = (s.dispatched cmd arg).setDisp e := by
  have huse : (s.setDisp d).useAnswer = s.useAnswer.setDisp d := by
    obtain ⟨a, rest, hcons⟩ := List.exists_cons_of_ne_nil hscript
    simp [State.useAnswer, State.setDisp, State.setCard, hcons]
  unfold State.dispatched
  rw [State.dispatchAnswer_setDisp hscript, huse]
  exact congrArg s.useAnswer.setCard (Card.dispatcherWrites_setDisp s.config _ s.card d e)

theorem State.dispatchAndEncode_setDisp (d e : DispFields) (cmd : BitVec 6) (arg : BitVec 32) :
    withDisp e ((s.setDisp d).dispatchAndEncode cmd arg) = withDisp e (s.dispatchAndEncode cmd arg) := by
  unfold State.dispatchAndEncode
  rw [State.dispatchAnswer_setDisp hscript]
  split
  · rw [← State.stepEight_setDisp, ← State.stepEight_setDisp, State.dispatched_setDisp hscript]
  · rfl

theorem State.checkAndDispatch_setDisp (d e : DispFields) (cmd : BitVec 6) (arg : BitVec 32) (crc : BitVec 7) :
    withDisp e ((s.setDisp d).checkAndDispatch cmd arg crc) = withDisp e (s.checkAndDispatch cmd arg crc) := by
  have hconfig : (s.setDisp d).config = s.config := rfl
  unfold State.checkAndDispatch
  rw [hconfig]
  split
  · exact s.framingError_setDisp d e
  · exact State.dispatchAndEncode_setDisp hscript d e cmd arg

end

/-- A pure operation leaves the card it is given, and returns the same with any. -/
theorem exec_setDisp_of_isPure {i : Instr} (hi : i.isPure = true) (s : State) (d e : DispFields) :
    withDisp e (exec i (s.setDisp d)) = withDisp e (exec i s) := by
  have hother : exec i (s.setDisp d) = mapNext (fun t => t.setCard (s.card.setDisp d)) (exec i s) :=
    pureOperationsReadNoField i s _ hi
  have hsame : exec i s = mapNext (fun t => t.setCard s.card) (exec i s) := pureOperationsReadNoField i s s.card hi
  rw [hother]
  conv_rhs => rw [hsame]
  cases exec i s <;> rfl

theorem exec_setDisp {i : Instr} {s : State} (hscript : i.isCommand = true → s.answers ≠ []) (d e : DispFields) :
    withDisp e (exec i (s.setDisp d)) = withDisp e (exec i s) := by
  cases i with
  | crc7 | crc16 | regSeal | dataBlockEncode | cmdEncode | cmdDecode | cmdCheck => exact exec_setDisp_of_isPure rfl s d e
  | frCommand cmd arg crc => exact State.gated_setDisp (State.checkAndDispatch_setDisp (hscript rfl) d e cmd arg crc)
  | frFrame frame =>
    have hconfig : (s.setDisp d).config = s.config := rfl
    simp only [exec, execFrFrame, hconfig]
    split
    · refine State.gated_setDisp ?_
      split
      · exact s.framingError_setDisp d e
      · exact State.checkAndDispatch_setDisp (hscript rfl) d e _ _ _
    · rfl
  | respR0 | respR1 | respR1b | respR2Cid | respR2Csd | respR3 | respR6 | respR7 | respIllegal => rfl

/-- Settles O45: other values in the dispatcher's fields go through each operation, up to these fields at its end. -/
theorem framerIgnoresExpectingAcmd : Obligations.FramerIgnoresExpectingAcmd :=
  fun _ _ d e hscript => exec_setDisp hscript d e

end Sys2Proof.Machine
end

section
/-! The Response Encoder's operations, called directly by the host (42_response.md R101 to R109). -/

namespace Sys2Proof.Machine

/-! ## One rule for the nine operations -/

/-- The operation that encodes a tag (30_encoding.md R59); only R7 has an operand (R61). -/
def respOp (pattern : BitVec 32) : RespTag → Instr
  | .r0 => .respR0
  | .r1 => .respR1
  | .r1b => .respR1b
  | .r2Cid => .respR2Cid
  | .r2Csd => .respR2Csd
  | .r3 => .respR3
  | .r6 => .respR6
  | .r7 => .respR7 pattern
  | .illegal => .respIllegal

/-- In every state such an operation completes, returns the bytes of its tag and writes `card_status` alone, by the clear
of its tag. -/
theorem exec_respOp (tag : RespTag) (pattern : BitVec 32) (s : State) : exec (respOp pattern tag) s =
    .next ((s.setCard (s.card.setStatus (statusEncoded s.config tag s.card.cardStatus))).finish
      (.bytes (respEncode s.config tag pattern s.card).out)) := by
  have hresponds : exec (respOp pattern tag) s = s.responds (respEncode s.config tag pattern s.card) := by
    cases tag <;> rfl
  rw [hresponds, State.responds, respEncode_card_eq]

/-! ## The clear-on-read bits -/

/-- A second read finds nothing to clear (20_memory.md R40). -/
@[simp] theorem clearOnRead_clearOnRead (cfg : Config) (status : BitVec 32) :
    clearOnRead cfg (clearOnRead cfg status) = clearOnRead cfg status := by
  simp only [clearOnRead, BitVec.and_assoc, BitVec.and_self]

/-- A read keeps the bits outside the mask. -/
theorem clearOnRead_getLsbD_of_not_mask {cfg : Config} {k : Nat} (h : cfg.maskClearOnRead.getLsbD k = false)
    {status : BitVec 32} : (clearOnRead cfg status).getLsbD k = status.getLsbD k := by
  grind [clearOnRead]

/-- `MASK_CLEAR_ON_READ` leaves out the clear-on-valid-command bits of R17. -/
theorem maskClearOnRead_getLsbD :
    ∀ k < 24, k = 23 ∨ k = 22 ∨ (9 ≤ k ∧ k ≤ 12) → specConfig.maskClearOnRead.getLsbD k = false := by
  decide

/-- Of the clear-on-read bits the projection of R6 shows ERROR, APP_CMD and AKE_SEQ_ERROR (R107). -/
theorem maskClearOnRead_and_r6SrcMask : specConfig.maskClearOnRead &&& specConfig.r6SrcMask =
    (1#32 <<< 19) ||| (1#32 <<< 5) ||| (1#32 <<< 3) := by
  decide

/-! ## The register images -/

theorem toList_eq_ofFn {α : Type} {n : Nat} (reg : Vector α n) : reg.toList = List.ofFn fun k : Fin n => reg[k] :=
  (congrArg Vector.toList Vector.ofFn_getElem.symm).trans Vector.toList_ofFn

theorem isSealed_iff {n : Nat} {cfg : Config} {reg : Vector Byte (n + 1)} :
    isSealed cfg reg = true ↔ reg[n] = trailer (crc7 cfg (reg.toList.take n)) := beq_iff_eq

/-- The bytes a seal covers, in a register where all of them are zero. -/
theorem take_toList_of_zeros {n : Nat} {reg : Vector Byte (n + 1)} (h : ∀ k : Fin n, reg[k] = 0x00#8) :
    reg.toList.take n = List.replicate n 0x00#8 := by
  refine List.ext_getElem (by simp) fun k hk _ => ?_
  have hkn : k < n := by simpa using hk
  simpa using h ⟨k, hkn⟩

/-! ## The obligations -/

/-- Settles O30: neither tag has bytes or a clear. -/
theorem emptyResponses : Obligations.EmptyResponses :=
  fun s => ⟨exec_respOp .r0 0 s, exec_respOp .illegal 0 s, rfl, decode_encode _, rfl, decode_encode _⟩

/-- Settles O31: both tags return the word and clear it, and the clear is idempotent. -/
theorem statusResponsesReadThenClear : Obligations.StatusResponsesReadThenClear := by
  intro s v t
  have hcleared : t.card.cardStatus = clearOnRead s.config v := rfl
  have hagain : exec .respR1 t = .next ((t.setCard (t.card.setStatus (clearOnRead s.config t.card.cardStatus))).finish
      (.bytes (be32 t.card.cardStatus))) := exec_respOp .r1 0 t
  rw [hcleared, clearOnRead_clearOnRead] at hagain
  refine ⟨exec_respOp .r1 0 s, exec_respOp .r1b 0 s, hagain, rfl, rfl, decode_encode _, rfl,
    decode_encode _, fun hmask hv => ?_, fun hmask hv => ?_, fun hmask k hk => ?_⟩
  · rw [hcleared, clearOnRead, hmask, hv]
    decide
  · rw [hcleared, clearOnRead, hmask, hv]
    decide
  · have hkept : s.config.maskClearOnRead.getLsbD k = false := by
      rw [hmask]
      exact maskClearOnRead_getLsbD k (by omega) hk
    exact clearOnRead_getLsbD_of_not_mask hkept

/-- Settles O32: the bytes of a register are its entries in index order, and the CRC-7 of zeros is zero. -/
theorem registerResponses : Obligations.RegisterResponses := by
  intro s
  refine ⟨?_, ?_, rfl, decode_encode _, rfl, decode_encode _,
    fun ⟨hcid, hcsd, _⟩ => ⟨isSealed_iff.mp hcid, isSealed_iff.mp hcsd⟩, fun hconfig ⟨_, hcsd, _⟩ hzeros => ?_⟩
  · rw [← toList_eq_ofFn]
    exact exec_respOp .r2Cid 0 s
  · rw [← toList_eq_ofFn]
    exact exec_respOp .r2Csd 0 s
  · rw [isSealed_iff.mp hcsd, take_toList_of_zeros hzeros, hconfig, crc7_replicate_zero rfl]
    rfl

/-- Settles O33: bits 31 and 30 are at the top of the first byte. -/
theorem ocrResponse : Obligations.OcrResponse :=
  fun s => ⟨exec_respOp .r3 0 s, by simp, by simp, rfl, decode_encode _, rfl⟩

/-- Settles O34: the tag returns the projection and clears the bits of the two masks; the examples are closed. -/
theorem rcaResponse : Obligations.RcaResponse := by
  intro s v p t
  have hcleared (hread : s.config.maskClearOnRead = specConfig.maskClearOnRead)
      (hsrc : s.config.r6SrcMask = specConfig.r6SrcMask) :
      t.card.cardStatus = v &&& ~~~((1#32 <<< 19) ||| (1#32 <<< 5) ||| (1#32 <<< 3)) := by
    rw [← maskClearOnRead_and_r6SrcMask, ← hread, ← hsrc]
  have hresult : t.result = some (.bytes (be16 s.card.rca ++ be16 (status16 v))) := rfl
  refine ⟨exec_respOp .r6 0 s, rfl, decode_encode _, hcleared, fun hread hsrc hv hrca => ?_,
    fun hread hsrc hv hrca => ?_⟩
  · rw [hresult, hcleared hread hsrc, hv, hrca]
    exact ⟨rfl, by decide⟩
  · rw [hresult, hcleared hread hsrc, hv, hrca]
    exact ⟨rfl, by decide⟩

/-- Settles O35: the tag returns its operand and has no clear. -/
theorem patternResponse : Obligations.PatternResponse :=
  fun p s => ⟨exec_respOp .r7 p s, rfl, decode_encode _, rfl, rfl⟩

end Sys2Proof.Machine
end

section
/-! No operation raises an exception (60_exceptions.md R121, R124), and a closed gate keeps the state (R133). -/

namespace Sys2Proof.Machine

/-! ## Refusals (R121, R124) -/

/-- The three answers of an operation. -/
theorem exec_answers (i : Instr) (s : State) : Completes (exec i s) ∨ exec i s = .refused .badLength ∨
    (exec i s = .refused .badDispatcherTag ∧ i.isCommand = true) := by
  cases hformed : i.wellFormed s.config with
  | false => exact .inr (.inl (exec_of_not_wellFormed hformed))
  | true =>
    exact (exec_of_wellFormed hformed).imp_right fun ⟨hcommand, _, _, _, _, hbad⟩ => .inr ⟨hbad, hcommand⟩

/-- Settles O47: none of the three answers is a fault, and two of them are the listed refusals. -/
theorem operationsNeverFault : Obligations.OperationsNeverFault := by
  intro i s
  obtain ⟨t, -, heq, -⟩ | heq | ⟨heq, hcommand⟩ := exec_answers i s <;> rw [heq]
  · exact ⟨nofun, nofun⟩
  · exact ⟨nofun, fun r hr => by cases hr; exact .inl rfl⟩
  · exact ⟨nofun, fun r hr => by cases hr; exact .inr ⟨rfl, hcommand⟩⟩

/-! ## Runs at a closed gate (R133) -/

/-- A run goes on from where its first operation leads. -/
theorem execAll_cons_of_next {i : Instr} {s t : State} (h : exec i s = .next t) (ops : List Instr) :
    execAll (i :: ops) s = execAll ops t := by
  simp [execAll, h]

/-- Either command transaction ends at a closed gate, when the gate is reached at all: a frame needs its six bytes. -/
theorem exec_of_closed {i : Instr} {s : State} (hcommand : i.isCommand = true)
    (hformed : i.wellFormed s.config = true) (hclosed : s.card.gateOpen = false) :
    exec i s = .next (s.finish (.transaction .gated [])) := by
  cases i with
  | frCommand => exact exec_frCommand_of_closed hclosed
  | frFrame =>
    obtain ⟨f, hsplit⟩ := splitFrame_of_length (of_decide_eq_true hformed)
    exact exec_frFrame_of_closed hsplit hclosed
  | _ => cases hcommand

/-- Settles O23, by induction on the run: its first transaction is GATED, which writes none of the four fields, so the
gate is closed and the operands are well formed for the rest of the run too. -/
theorem stateSurvivesWhileGated : Obligations.StateSurvivesWhileGated := by
  intro ops
  induction ops with
  | nil => exact fun s _ _ => ⟨s, rfl, rfl, rfl, rfl, rfl⟩
  | cons i ops ih =>
    intro s hops hclosed
    obtain ⟨⟨hcommand, hformed⟩, hrest⟩ := List.forall_mem_cons.mp hops
    rw [execAll_cons_of_next (exec_of_closed hcommand hformed hclosed)]
    exact ih (s.finish (.transaction .gated [])) hrest hclosed

end Sys2Proof.Machine
end

section
/-! The card's reset, overlaps and the Power-Up Sequencer (70_reset_and_hazards.md R142, R144, R145): what each of these
inputs leaves. -/

namespace Sys2Proof.Machine

/-! ## The card's reset (R142, 10_state.md R28) -/

/-- The next input is a reset of the card: it goes on, with the card alone changed. -/
theorem step_of_cardReset {s : State} {d : CardResetData} {rest : List Event} (h : s.inbox = .cardReset d :: rest) :
    step s = .next ((s.takeInput rest).setCard (s.card.reset s.config d)) := step_of_inbox_cons h

theorem ocrAfterReset_capacityBit (cfg : Config) (capacity : Nat) :
    (ocrAfterReset cfg capacity).getLsbD 30 = decide (0x40000000 < capacity) := by
  unfold ocrAfterReset
  split <;> grind

theorem ocrAfterReset_low (cfg : Config) (capacity : Nat) :
    (ocrAfterReset cfg capacity).extractLsb' 0 30 = cfg.ocrResetLow :=
  BitVec.extractLsb'_append_eq_right

/-- The answer resets the card with the data `d` and writes no single field. -/
def DispatcherAnswer.OnlyResets (d : CardResetData) (a : DispatcherAnswer) : Prop :=
  a = { a with reset := some d, cardStatus := none, rca := none, ocrLow := none, assertPowerUp := false, disp := none }

/-- The dispatcher's reset and the event's are one function. -/
theorem DispatcherAnswer.OnlyResets.dispatcherWrites {d : CardResetData} {a : DispatcherAnswer} (h : a.OnlyResets d)
    (cfg : Config) (c : Card) : c.dispatcherWrites cfg a = c.reset cfg d := by
  rw [DispatcherAnswer.OnlyResets] at h
  rw [h]
  rfl

/-- Settles O53, by the equation of the reset's step: every clause is about the card it leaves, whose `ocr` is written
bit by bit and whose images are sealed by REG_SEAL. -/
theorem cardResetSetsItsFields : Obligations.CardResetSetsItsFields := by
  intro s d rest hinbox
  refine ⟨_, step_of_cardReset hinbox, rfl, ocrAfterReset_powerUpBit s.config d.capacity,
    ocrAfterReset_capacityBit s.config d.capacity, ocrAfterReset_low s.config d.capacity, rfl,
    toList_sealRegister s.config d.cid, toList_sealRegister s.config d.csd, ?_, rfl, rfl, rfl, rfl,
    fun cmd arg a hscript honly => ?_⟩
  · rw [State.setCard_card, Card.reset_scr, apply_ite Vector.toList, toList_sealRegister]
  · have hanswer : s.dispatchAnswer cmd arg = a := by simp [State.dispatchAnswer, hscript]
    rw [State.dispatched_card, hanswer, State.setCard_card]
    exact DispatcherAnswer.OnlyResets.dispatcherWrites honly s.config s.card

/-! ## Overlaps (R144) -/

/-- Settles O55: an overlapped call has one meaning, whatever the call and whatever overlaps it. -/
theorem overlappedCallsAreRefused : Obligations.OverlappedCallsAreRefused :=
  fun _ _ _ _ hinbox => step_of_inbox_cons hinbox

/-! ## The Power-Up Sequencer (R145) -/

theorem powerUpBit_one_append (low : BitVec 31) : (1#1 ++ low).getLsbD 31 = true := by
  grind

theorem Card.assertPowerUp_low (c : Card) {k : Nat} (hk : k < 31) :
    c.assertPowerUp.ocr.getLsbD k = c.ocr.getLsbD k := by
  rw [Card.assertPowerUp_ocr]
  grind

theorem State.powerUpFires_of_clear {s : State} (h : s.card.ocr.getLsbD 31 = false) :
    s.powerUpFires = .next (s.setCard (s.card.assertPowerUp.setDisp { s.card.disp with powerUpPending := false })) :=
  if_neg (ne_true_of_eq_false h)

theorem State.powerUpFires_of_set {s : State} (h : s.card.ocr.getLsbD 31 = true) :
    s.powerUpFires = .fault .powerUpTwice :=
  if_pos h

/-- Settles O54: the firing has two branches, on `ocr[31]`; inside a transaction it is an overlap. -/
theorem powerUpFiresBetweenTransactions : Obligations.PowerUpFiresBetweenTransactions := by
  intro s rest
  refine ⟨fun hinbox hclear => ?_, fun hinbox hset => ?_, fun c => overlappedCallsAreRefused s rest c .powerUpFires⟩
  · have hfires := State.powerUpFires_of_clear (s := s.takeInput rest) hclear
    exact ⟨_, (step_of_inbox_cons hinbox).trans hfires, rfl, powerUpBit_one_append _,
      fun _ hk => Card.assertPowerUp_low s.card hk⟩
  · exact (step_of_inbox_cons hinbox).trans (State.powerUpFires_of_set (s := s.takeInput rest) hset)

end Sys2Proof.Machine
end

section
/-! The power-up bit between resets (70_reset_and_hazards.md R146): with `ocr[31]` set, `ocr` is written by the card's
reset and by the dispatcher alone, and a dispatcher that is called uses an answer up. -/

namespace Sys2Proof.Machine

/-! ## Who is called, and what it writes -/

/-- No dispatcher is called between `s` and `t`: no answer is used up. -/
def State.CallsNone (s t : State) : Prop := t.answers = s.answers ∧ t.draws = s.draws

theorem State.not_callsNone_useAnswer (s : State) : ¬ s.CallsNone s.useAnswer := by
  rintro ⟨hanswers, hdraws⟩
  unfold State.useAnswer at hanswers hdraws
  split at hanswers
  · next hscript => simp [hscript] at hanswers
  · next hscript => simp [hscript] at hdraws

/-- A word with the power-up bit set is that bit and its other bits. -/
theorem one_append_of_powerUpBit {ocr : BitVec 32} (hset : ocr.getLsbD 31 = true) :
    1#1 ++ ocr.extractLsb' 0 31 = ocr := by
  ext k hk
  grind

/-- An answer that resets nothing leaves the power-up bit set, and the other bits as they were or as it writes them. -/
theorem Card.dispatcherWrites_ocr_of_not_reset {cfg : Config} {a : DispatcherAnswer} {c : Card}
    (hset : c.ocr.getLsbD 31 = true) (hreset : a.reset = none) :
    (c.dispatcherWrites cfg a).ocr = 1#1 ++ a.ocrLow.getD (c.ocr.extractLsb' 0 31) := by
  have htop : c.ocr.extractLsb' 31 1 = 1#1 := by
    ext k hk; grind
  rw [Card.dispatcherWrites_ocr, hreset, htop, ite_self]

/-! ## What a step can do to `ocr` -/

/-- The dispatcher is called between `s` and `t` with some request, and `ocr` ends as its answer leaves it. -/
def State.OcrIsDispatched (s t : State) : Prop :=
  ¬ s.CallsNone t ∧ ∃ cmd arg, t.card.ocr = (s.card.dispatcherWrites s.config (s.dispatchAnswer cmd arg)).ocr

/-- An operation leaves `ocr`, or it calls the dispatcher, which leaves it as it answers. -/
theorem exec_ocr_or {i : Instr} {s t : State} (h : exec i s = .next t) :
    t.card.ocr = s.card.ocr ∨ s.OcrIsDispatched t := by
  obtain ⟨status, result, rfl⟩ | ⟨cmd, arg, -, -, status, result, rfl⟩ := exec_next h
  · exact .inl rfl
  · exact .inr ⟨s.not_callsNone_useAnswer, cmd, arg, rfl⟩

/-- The Data Transfer Engine writes no `ocr`. -/
theorem Card.dataEngineWrites_ocr (status : Option (BitVec 32)) (state : Option CardState) (c : Card) :
    (c.dataEngineWrites status state).ocr = c.ocr := by
  cases status <;> cases state <;> rfl

/-- With the power-up bit set, an input leaves `ocr`, or it is the card's reset, or it calls the dispatcher. -/
theorem State.runEvent_ocr_or {s t : State} {e : Event} (hset : s.card.ocr.getLsbD 31 = true)
    (h : s.runEvent e = .next t) :
    t.card.ocr = s.card.ocr ∨ (∃ d, e = .cardReset d) ∨ s.OcrIsDispatched t := by
  cases e with
  | call c =>
    obtain ⟨i, -, hexec⟩ := State.runCall_next h
    exact (exec_ocr_or hexec).imp_right .inr
  | overlappedCall => cases h
  | powerUpFires =>
    rw [State.runEvent, State.powerUpFires_of_set hset] at h
    cases h
  | cardReset d => exact .inr (.inl ⟨d, rfl⟩)
  | setEnabled | setInserted | setHasMedium => cases h; exact .inl rfl
  | dataEngine status state => cases h; exact .inl (Card.dataEngineWrites_ocr status state s.card)

/-- With the power-up bit set, a step leaves `ocr`, or its input is the card's reset, or it calls the dispatcher. -/
theorem step_ocr_or {s t : State} (hset : s.card.ocr.getLsbD 31 = true) (h : step s = .next t) :
    t.card.ocr = s.card.ocr ∨ (∃ d rest, s.inbox = .cardReset d :: rest) ∨ s.OcrIsDispatched t := by
  match hinbox : s.inbox with
  | [] =>
    rw [step_of_inbox_nil hinbox] at h
    cases h
    exact .inl rfl
  | e :: rest =>
    rw [step_of_inbox_cons hinbox] at h
    obtain hocr | ⟨d, rfl⟩ | hdispatched := State.runEvent_ocr_or (s := s.takeInput rest) hset h
    · exact .inl hocr
    · exact .inr (.inl ⟨d, rest, rfl⟩)
    · exact .inr (.inr hdispatched)

/-- Settles O56: the step leaves `ocr`, or the dispatcher is called and answers without a reset, which keeps the bit. -/
theorem powerUpBitIsMonotoneBetweenResets : Obligations.PowerUpBitIsMonotoneBetweenResets := by
  intro s t h hset hinput callsNone hanswer
  obtain hocr | ⟨d, rest, hreset⟩ | ⟨hcalls, cmd, arg, hocr⟩ := step_ocr_or hset h
  · exact ⟨hocr ▸ hset, fun _ => hocr⟩
  · exact absurd hreset (hinput d rest)
  · have hreset := hanswer.resolve_left hcalls cmd arg
    rw [Card.dispatcherWrites_ocr_of_not_reset hset hreset] at hocr
    refine ⟨?_, fun hlow => ?_⟩
    · rw [hocr]
      exact powerUpBit_one_append _
    · rw [hocr, hlow.resolve_left hcalls cmd arg]
      exact one_append_of_powerUpBit hset

end Sys2Proof.Machine
end
